-- ==== Sys2Proof/Word.lean ====
section
/-! DEFINITION. The widths of 00_scope.md R7 and R9, as names for core bit vectors. Bit 0 is the least significant
everywhere (R9). One-bit state elements and bits on a pin are `Bool`: `true` is 1. -/

namespace Sys2Proof

/-- A data byte, `BYTE_W` = 8 (R7). -/
abbrev Byte := BitVec 8

/-- A target address, `ADDR_W` = 7 (R7). -/
abbrev Addr := BitVec 7

/-- A bit index, `BITIDX_W` = 3 (R7). -/
abbrev BitIndex := BitVec 3

/-- A sub-phase, `PHASE_W` = 2 (R7). -/
abbrev Phase := BitVec 2

/-- A protocol state code, `STATE_W` = 4, of which 0 to 9 are used (R7, R86). -/
abbrev StateCode := BitVec 4

/-- A 16-bit counter: `W_RX`, `EW_W` and the retry count (R7, R20). -/
abbrev Count := BitVec 16

/-- A host command word, `CMD_W` = 16, and the data of a response, `RSP_W` = 16 (R7). -/
abbrev CmdWord := BitVec 16

/-- A tick dispatch key (30_encoding.md R87). -/
abbrev TickKey := BitVec 8

end Sys2Proof
end

