-- ==== Sys2Proof/Syntax.lean ====
section
/-! DEFINITION. The instructions: one constructor per row of spec/opcode_table.json, in the table's order, with every
bit of the row's encoding that the row leaves variable as an operand. Also the names of the protocol states (R22) and
what can arrive at the block's input ports (60_exceptions.md R183, R189). -/

namespace Sys2Proof

/-- The ten protocol states (10_state.md R22), in the order of their codes (30_encoding.md R86). -/
inductive ProtoState where
  | idle | start | sendAddress | sendReadWriteBit | waitForAcknowledge
  | sendData | receiveData | sendAcknowledge | sendNoAcknowledge | stop
deriving DecidableEq, Repr, Inhabited

/-- What arrives at the block's ports: a firing of the `tick` input (41_tick_sequencer.md R131), a word on the command
port (R189), or the `rst` input (70_reset_and_hazards.md R200). -/
inductive PortEvent where
  | tick
  | command (w : CmdWord)
  | rst
deriving DecidableEq, Repr, Inhabited

/-- The encoded forms: a 16-bit command word (CMD16) or an 8-bit tick key (TICK8). -/
inductive Code where
  | cmd (w : CmdWord)
  | key (k : TickKey)
deriving DecidableEq, Repr

/-- The instructions. In the tick rows `wf` is key bit 6 (`waitFlag`), `st` key bits 5..2 (the state code) and `ph` key
bits 1..0 (`subPhase`), wherever the row leaves them variable (30_encoding.md R87). -/
inductive Instr where
  /-- NOP, R100. -/
  | nop
  /-- SETADDR, R101: `ADDR`. -/
  | setaddr (a : Addr)
  /-- WRITE, R102: `DATA`. -/
  | write (b : Byte)
  /-- READ, R103: `N`. -/
  | read (n : BitVec 12)
  /-- POPRX, R104. -/
  | poprx
  /-- RDREG, R105: `REG`. -/
  | rdreg (r : BitVec 4)
  /-- SETCFG, R106: `ACKPOL`, `IGNACK`, `OVFPOL`. -/
  | setcfg (ackpol ignack ovfpol : Bool)
  /-- CLRSTS, R107: `MASK`. -/
  | clrsts (m : BitVec 4)
  /-- RESERVED, R108: OP 0x8 to 0xF; the other fifteen bits. -/
  | reserved (rest : BitVec 15)
  /-- ILLEGAL, R108: OP 0x0 to 0x7 with a must-be-0 bit set; the whole word. -/
  | illegal (w : CmdWord)
  /-- TICK_CONSUME, R120. -/
  | tickConsume (wf : Bool) (st : StateCode) (ph : Phase)
  /-- TICK_RESERVED_10_11, R88: `c` is key bit 2. -/
  | tickReserved1011 (wf : Bool) (c : BitVec 1) (ph : Phase)
  /-- TICK_RESERVED_12_15, R88: `c` is key bits 3..2. -/
  | tickReserved1215 (wf : Bool) (c : BitVec 2) (ph : Phase)
  /-- TICK_P0, R122. -/
  | tickP0 (wf : Bool) (st : StateCode)
  /-- TICK_P2, R123. -/
  | tickP2 (wf : Bool) (st : StateCode)
  /-- TICK_P3_PAUSE, R124. -/
  | tickP3Pause (st : StateCode)
  /-- IDLE_P1, R140. -/
  | idleP1 (wf : Bool)
  /-- START_P1, R141. -/
  | startP1 (wf : Bool)
  /-- SADDR_P1, R142. -/
  | saddrP1 (wf : Bool)
  /-- SRW_P1, R143. -/
  | srwP1 (wf : Bool)
  /-- WACK_P1, R144. -/
  | wackP1 (wf : Bool)
  /-- SDATA_P1, R145. -/
  | sdataP1 (wf : Bool)
  /-- RDATA_P1, R146. -/
  | rdataP1 (wf : Bool)
  /-- SACK_P1, R147. -/
  | sackP1 (wf : Bool)
  /-- SNACK_P1, R148. -/
  | snackP1 (wf : Bool)
  /-- STOP_P1, R149. -/
  | stopP1 (wf : Bool)
  /-- IDLE_P3, R164. -/
  | idleP3
  /-- START_P3, R160. -/
  | startP3
  /-- SADDR_P3, R164. -/
  | saddrP3
  /-- SRW_P3, R164. -/
  | srwP3
  /-- WACK_P3, R161. -/
  | wackP3
  /-- SDATA_P3, R164. -/
  | sdataP3
  /-- RDATA_P3, R162. -/
  | rdataP3
  /-- SACK_P3, R164. -/
  | sackP3
  /-- SNACK_P3, R164. -/
  | snackP3
  /-- STOP_P3, R163. -/
  | stopP3
deriving DecidableEq, Repr

end Sys2Proof
end

