-- ==== Sys2Proof/WellFormed.lean ====
section
/-! DEFINITION. Which terms of `Instr` stand for an encoding: an ILLEGAL word is one that no row above it in the table
takes (30_encoding.md R82), and the state code of a TICK_P0, TICK_P2 or TICK_P3_PAUSE key is one of the ten, since the
reserved codes select their own rows first (R87, priorities 2 to 5). Every other operand is legal at every value. -/

namespace Sys2Proof

/-- The must-be-0 bits of each opcode below 0x8 (30_encoding.md R81). -/
def mustBeZero (op : BitVec 4) : CmdWord :=
  match op.toNat with
  | 0 => 0x0FFF#16
  | 1 => 0x0F80#16
  | 2 => 0x0F00#16
  | 4 => 0x0FFF#16
  | 5 => 0x0FF0#16
  | 6 => 0x0FF8#16
  | 7 => 0x0FF0#16
  | _ => 0#16

/-- The opcode field, `OP` = [15:12] (R80). -/
def opField (w : CmdWord) : BitVec 4 := w.extractLsb' 12 4

/-- OP 0x0 to 0x7 with a must-be-0 bit set: the second clause of R82. -/
def hasReservedBit (w : CmdWord) : Bool :=
  decide ((opField w).toNat < 8) && decide (w &&& mustBeZero (opField w) ≠ 0#16)

/-- A code that names one of the ten states (R86). -/
def legalCode (c : StateCode) : Bool := decide (c.toNat < 10)

/-- The well-formedness check of an instruction. -/
def Instr.wf : Instr → Bool
  | .illegal w => hasReservedBit w
  | .tickP0 _ st => legalCode st
  | .tickP2 _ st => legalCode st
  | .tickP3Pause st => legalCode st
  | .nop => true
  | .setaddr _ => true
  | .write _ => true
  | .read _ => true
  | .poprx => true
  | .rdreg _ => true
  | .setcfg _ _ _ => true
  | .clrsts _ => true
  | .reserved _ => true
  | .tickConsume _ _ _ => true
  | .tickReserved1011 _ _ _ => true
  | .tickReserved1215 _ _ _ => true
  | .idleP1 _ => true
  | .startP1 _ => true
  | .saddrP1 _ => true
  | .srwP1 _ => true
  | .wackP1 _ => true
  | .sdataP1 _ => true
  | .rdataP1 _ => true
  | .sackP1 _ => true
  | .snackP1 _ => true
  | .stopP1 _ => true
  | .idleP3 => true
  | .startP3 => true
  | .saddrP3 => true
  | .srwP3 => true
  | .wackP3 => true
  | .sdataP3 => true
  | .rdataP3 => true
  | .sackP3 => true
  | .snackP3 => true
  | .stopP3 => true

end Sys2Proof
end

