-- ==== Sys2Proof/Decode.lean ====
section
/-! DEFINITION. The decoder of command words (30_encoding.md R80 to R82) and of tick keys (R87), the codes of the
protocol states (R86), and after them the encoder, written from the same tables. Both decoders are total: every command
word and every key has its row. Only a width that is neither 8 nor 16 bits is refused, by name. -/

namespace Sys2Proof

/-- The 4-bit code of a protocol state (R86). -/
def ProtoState.code : ProtoState → StateCode
  | .idle => 0#4
  | .start => 1#4
  | .sendAddress => 2#4
  | .sendReadWriteBit => 3#4
  | .waitForAcknowledge => 4#4
  | .sendData => 5#4
  | .receiveData => 6#4
  | .sendAcknowledge => 7#4
  | .sendNoAcknowledge => 8#4
  | .stop => 9#4

/-- The state a code names; the codes 10 to 15 are reserved (R86, R88). -/
def stateOfCode (c : StateCode) : Option ProtoState :=
  match c.toNat with
  | 0 => some .idle
  | 1 => some .start
  | 2 => some .sendAddress
  | 3 => some .sendReadWriteBit
  | 4 => some .waitForAcknowledge
  | 5 => some .sendData
  | 6 => some .receiveData
  | 7 => some .sendAcknowledge
  | 8 => some .sendNoAcknowledge
  | 9 => some .stop
  | _ => none

/-- `i` where the word's must-be-0 bits are 0, and ILLEGAL where one of them is 1 (R82): the check of
60_exceptions.md R184 (e) that comes before every other. -/
def unlessIllegal (mbz : CmdWord) (w : CmdWord) (i : Instr) : Instr :=
  if w &&& mbz = 0#16 then i else .illegal w

/-- The decoder of command words (R81, R82). -/
def decodeCommand (w : CmdWord) : Instr :=
  match (w.extractLsb' 12 4).toNat with
  | 0 => unlessIllegal 0x0FFF#16 w .nop
  | 1 => unlessIllegal 0x0F80#16 w (.setaddr (w.extractLsb' 0 7))
  | 2 => unlessIllegal 0x0F00#16 w (.write (w.extractLsb' 0 8))
  | 3 => .read (w.extractLsb' 0 12)
  | 4 => unlessIllegal 0x0FFF#16 w .poprx
  | 5 => unlessIllegal 0x0FF0#16 w (.rdreg (w.extractLsb' 0 4))
  | 6 => unlessIllegal 0x0FF8#16 w (.setcfg (w.getLsbD 0) (w.getLsbD 1) (w.getLsbD 2))
  | 7 => unlessIllegal 0x0FF0#16 w (.clrsts (w.extractLsb' 0 4))
  | _ => .reserved (w.extractLsb' 0 15)

/-- The rows of sub-phase 1 (R87 priority 6, 41_tick_sequencer.md R125). -/
def phase1Row (wf : Bool) : ProtoState → Instr
  | .idle => .idleP1 wf
  | .start => .startP1 wf
  | .sendAddress => .saddrP1 wf
  | .sendReadWriteBit => .srwP1 wf
  | .waitForAcknowledge => .wackP1 wf
  | .sendData => .sdataP1 wf
  | .receiveData => .rdataP1 wf
  | .sendAcknowledge => .sackP1 wf
  | .sendNoAcknowledge => .snackP1 wf
  | .stop => .stopP1 wf

/-- The rows of sub-phase 3 with the pause not armed (R87 priority 7, R126). -/
def phase3Row : ProtoState → Instr
  | .idle => .idleP3
  | .start => .startP3
  | .sendAddress => .saddrP3
  | .sendReadWriteBit => .srwP3
  | .waitForAcknowledge => .wackP3
  | .sendData => .sdataP3
  | .receiveData => .rdataP3
  | .sendAcknowledge => .sackP3
  | .sendNoAcknowledge => .snackP3
  | .stop => .stopP3

/-- The row of a reserved state code (R87 priority 2). -/
def reservedRow (wf : Bool) (st : StateCode) (ph : Phase) : Instr :=
  if st.toNat < 12 then .tickReserved1011 wf (st.extractLsb' 0 1) ph
  else .tickReserved1215 wf (st.extractLsb' 0 2) ph

/-- The row of a key whose gate bit is 0 and whose code names the state `p` (R87 priorities 3 to 7). -/
def openGateRow (wf : Bool) (st : StateCode) (ph : Phase) (p : ProtoState) : Instr :=
  match ph.toNat with
  | 0 => .tickP0 wf st
  | 1 => phase1Row wf p
  | 2 => .tickP2 wf st
  | _ => if wf then .tickP3Pause st else phase3Row p

/-- The decoder of tick keys: K[7] the extra-wait gate, K[6] `waitFlag`, K[5:2] the state code, K[1:0] `subPhase`, and
the first matching row in the order of the priorities (R87). -/
def decodeKey (k : TickKey) : Instr :=
  if k.getLsbD 7 then .tickConsume (k.getLsbD 6) (k.extractLsb' 2 4) (k.extractLsb' 0 2)
  else
    match stateOfCode (k.extractLsb' 2 4) with
    | none => reservedRow (k.getLsbD 6) (k.extractLsb' 2 4) (k.extractLsb' 0 2)
    | some p => openGateRow (k.getLsbD 6) (k.extractLsb' 2 4) (k.extractLsb' 0 2) p

/-- The decoder over both formats. -/
def decode : Code → Instr
  | .cmd w => decodeCommand w
  | .key k => decodeKey k

/-- Why a table word has no instruction. -/
inductive DecodeError where
  /-- The table has rows of 16 bits (CMD16) and of 8 bits (TICK8) only. -/
  | noSuchWidth (nbits : Nat)
  /-- The number does not fit the width. -/
  | tooWide (nbits w : Nat)
deriving DecidableEq, Repr

/-- The encoded form whose bits are `w`, numbered as spec/opcode_table.json numbers them. -/
def codeOfTableWord (nbits w : Nat) : Except DecodeError Code :=
  if nbits = 16 then
    if w < 65536 then .ok (.cmd (BitVec.ofNat 16 w)) else .error (.tooWide nbits w)
  else if nbits = 8 then
    if w < 256 then .ok (.key (BitVec.ofNat 8 w)) else .error (.tooWide nbits w)
  else .error (.noSuchWidth nbits)

/-- The instruction the decoder reads from a table word. -/
def decodeTableWord (nbits w : Nat) : Option Instr :=
  match codeOfTableWord nbits w with
  | .ok c => some (decode c)
  | .error _ => none

/-- The key of a tick row, from its four fields (R87). -/
def keyOf (gate wf : Bool) (st : StateCode) (ph : Phase) : TickKey :=
  BitVec.ofBool gate ++ BitVec.ofBool wf ++ st ++ ph

/-- The encoder: each row's fixed bits and operand fields as spec/opcode_table.json and R81, R87 lay them out. -/
def encode : Instr → Code
  | .nop => .cmd 0x0000#16
  | .setaddr a => .cmd (0b000100000#9 ++ a)
  | .write b => .cmd (0x20#8 ++ b)
  | .read n => .cmd (0x3#4 ++ n)
  | .poprx => .cmd 0x4000#16
  | .rdreg r => .cmd (0x500#12 ++ r)
  | .setcfg a i o => .cmd (0b0110000000000#13 ++ BitVec.ofBool o ++ BitVec.ofBool i ++ BitVec.ofBool a)
  | .clrsts m => .cmd (0x700#12 ++ m)
  | .reserved rest => .cmd (1#1 ++ rest)
  | .illegal w => .cmd w
  | .tickConsume wf st ph => .key (keyOf true wf st ph)
  | .tickReserved1011 wf c ph => .key (keyOf false wf (0b101#3 ++ c) ph)
  | .tickReserved1215 wf c ph => .key (keyOf false wf (0b11#2 ++ c) ph)
  | .tickP0 wf st => .key (keyOf false wf st 0#2)
  | .tickP2 wf st => .key (keyOf false wf st 2#2)
  | .tickP3Pause st => .key (keyOf false true st 3#2)
  | .idleP1 wf => .key (keyOf false wf 0#4 1#2)
  | .startP1 wf => .key (keyOf false wf 1#4 1#2)
  | .saddrP1 wf => .key (keyOf false wf 2#4 1#2)
  | .srwP1 wf => .key (keyOf false wf 3#4 1#2)
  | .wackP1 wf => .key (keyOf false wf 4#4 1#2)
  | .sdataP1 wf => .key (keyOf false wf 5#4 1#2)
  | .rdataP1 wf => .key (keyOf false wf 6#4 1#2)
  | .sackP1 wf => .key (keyOf false wf 7#4 1#2)
  | .snackP1 wf => .key (keyOf false wf 8#4 1#2)
  | .stopP1 wf => .key (keyOf false wf 9#4 1#2)
  | .idleP3 => .key (keyOf false false 0#4 3#2)
  | .startP3 => .key (keyOf false false 1#4 3#2)
  | .saddrP3 => .key (keyOf false false 2#4 3#2)
  | .srwP3 => .key (keyOf false false 3#4 3#2)
  | .wackP3 => .key (keyOf false false 4#4 3#2)
  | .sdataP3 => .key (keyOf false false 5#4 3#2)
  | .rdataP3 => .key (keyOf false false 6#4 3#2)
  | .sackP3 => .key (keyOf false false 7#4 3#2)
  | .snackP3 => .key (keyOf false false 8#4 3#2)
  | .stopP3 => .key (keyOf false false 9#4 3#2)

/-- The row's `match` and `mask` of spec/opcode_table.json, as numbers. -/
def tableMatchMask : Instr → Nat × Nat
  | .nop => (0x0000, 0xFFFF)
  | .setaddr _ => (0x1000, 0xFF80)
  | .write _ => (0x2000, 0xFF00)
  | .read _ => (0x3000, 0xF000)
  | .poprx => (0x4000, 0xFFFF)
  | .rdreg _ => (0x5000, 0xFFF0)
  | .setcfg _ _ _ => (0x6000, 0xFFF8)
  | .clrsts _ => (0x7000, 0xFFF0)
  | .reserved _ => (0x8000, 0x8000)
  | .illegal _ => (0x0000, 0x0000)
  | .tickConsume _ _ _ => (0x80, 0x80)
  | .tickReserved1011 _ _ _ => (0x28, 0xB8)
  | .tickReserved1215 _ _ _ => (0x30, 0xB0)
  | .tickP0 _ _ => (0x00, 0x83)
  | .tickP2 _ _ => (0x02, 0x83)
  | .tickP3Pause _ => (0x43, 0xC3)
  | .idleP1 _ => (0x01, 0xBF)
  | .startP1 _ => (0x05, 0xBF)
  | .saddrP1 _ => (0x09, 0xBF)
  | .srwP1 _ => (0x0D, 0xBF)
  | .wackP1 _ => (0x11, 0xBF)
  | .sdataP1 _ => (0x15, 0xBF)
  | .rdataP1 _ => (0x19, 0xBF)
  | .sackP1 _ => (0x1D, 0xBF)
  | .snackP1 _ => (0x21, 0xBF)
  | .stopP1 _ => (0x25, 0xBF)
  | .idleP3 => (0x03, 0xFF)
  | .startP3 => (0x07, 0xFF)
  | .saddrP3 => (0x0B, 0xFF)
  | .srwP3 => (0x0F, 0xFF)
  | .wackP3 => (0x13, 0xFF)
  | .sdataP3 => (0x17, 0xFF)
  | .rdataP3 => (0x1B, 0xFF)
  | .sackP3 => (0x1F, 0xFF)
  | .snackP3 => (0x23, 0xFF)
  | .stopP3 => (0x27, 0xFF)

/-- The priority of a tick row (R87); the rows of priority 1 are tried first. Command rows have none. -/
def rowPriority : Instr → Nat
  | .nop => 0
  | .setaddr _ => 0
  | .write _ => 0
  | .read _ => 0
  | .poprx => 0
  | .rdreg _ => 0
  | .setcfg _ _ _ => 0
  | .clrsts _ => 0
  | .reserved _ => 0
  | .illegal _ => 0
  | .tickConsume _ _ _ => 1
  | .tickReserved1011 _ _ _ => 2
  | .tickReserved1215 _ _ _ => 2
  | .tickP0 _ _ => 3
  | .tickP2 _ _ => 4
  | .tickP3Pause _ => 5
  | .idleP1 _ => 6
  | .startP1 _ => 6
  | .saddrP1 _ => 6
  | .srwP1 _ => 6
  | .wackP1 _ => 6
  | .sdataP1 _ => 6
  | .rdataP1 _ => 6
  | .sackP1 _ => 6
  | .snackP1 _ => 6
  | .stopP1 _ => 6
  | .idleP3 => 7
  | .startP3 => 7
  | .saddrP3 => 7
  | .srwP3 => 7
  | .wackP3 => 7
  | .sdataP3 => 7
  | .rdataP3 => 7
  | .sackP3 => 7
  | .snackP3 => 7
  | .stopP3 => 7

/-- Whether an instruction is a host command, that is a CMD16 row. -/
def isCommand (i : Instr) : Bool :=
  match encode i with
  | .cmd _ => true
  | .key _ => false

/-- The bits of an encoded form as a number, numbered as the table numbers them. -/
def Code.toNat : Code → Nat
  | .cmd w => w.toNat
  | .key k => k.toNat

/-- Whether an encoded form has the fixed bits of the row that `i` stands for. -/
def fitsRow (i : Instr) (c : Code) : Bool :=
  decide (c.toNat &&& (tableMatchMask i).2 = (tableMatchMask i).1)

end Sys2Proof
end

