-- ==== Sys2Proof/Config.lean ====
section
/-! DEFINITION. What an implementation fixes and the spec leaves OPEN (00_scope.md R7), and the free values: opaque
constants with no body, of which no proof can know the value. -/

namespace Sys2Proof

/-- The implementation parameters of R7. `outqCap` and `inqCap` are in 1..65535 (`Params.wf`), the two waits fill their
16 bits, and `RETRY_LIMIT` has no upper bound. -/
structure Params where
  /-- `OUTQ_CAP`. -/
  outqCap : Nat
  /-- `INQ_CAP`. -/
  inqCap : Nat
  /-- `START_WAIT`. -/
  startWait : Count
  /-- `STOP_WAIT`. -/
  stopWait : Count
  /-- `RETRY_LIMIT`; 0 means unbounded. -/
  retryLimit : Nat
deriving DecidableEq, Repr

/-- The ranges R7 gives the two capacities. -/
abbrev Params.wf (p : Params) : Prop :=
  1 ≤ p.outqCap ∧ p.outqCap ≤ 65535 ∧ 1 ≤ p.inqCap ∧ p.inqCap ≤ 65535

/-- `OUTQ_CAP` less one, so that every value is in the range of R7. -/
opaque Config.outqCapPred : Fin 65535

/-- `INQ_CAP` less one. -/
opaque Config.inqCapPred : Fin 65535

/-- `START_WAIT`. -/
opaque Config.startWait : Count

/-- `STOP_WAIT`. -/
opaque Config.stopWait : Count

/-- `RETRY_LIMIT`. -/
opaque Config.retryLimit : Nat

/-- The parameters of the machine that `State.reset` starts: open, as R7 has them (log entry 2). -/
def Config.params : Params where
  outqCap := Config.outqCapPred.val + 1
  inqCap := Config.inqCapPred.val + 1
  startWait := Config.startWait
  stopWait := Config.stopWait
  retryLimit := Config.retryLimit

/-- FREE VALUE: what arrives before the next tick, first arrival first, once the arrivals listed in the state are used up:
any number of host steps (41_tick_sequencer.md R131, 20_memory.md R70; log entry 4). -/
opaque Config.hostSteps : Nat → List PortEvent

/-- FREE VALUE: the n-th level the peer presents to `SampleSDA` once the draws listed in the state are used up
(41_tick_sequencer.md R130; log entry 5). -/
opaque Config.peerLevel : Nat → Bool

/-- FREE VALUE: `retryCount` after a failed acknowledge whose count 0x10000 does not fit its 16 bits (R20, R161; log
entry 3). -/
opaque Config.openCount : Nat → Count

/-- FREE VALUE: the level SADDR_P1 drives at `bitIndex` 7, for which R142 names no address bit (log entry 9). -/
opaque Config.openLevel : Nat → Bool

/-- FREE VALUE: `bitIndex` after SADDR_P1 at `bitIndex` 7, where R142's sum 8 does not fit 3 bits (log entry 9). -/
opaque Config.openIndex : Nat → BitIndex

end Sys2Proof
end

