-- ==== Sys2Proof/Machine/State.lean ====
section
/-! DEFINITION. The state of the block (10_state.md R20), the model's own fields for its ports, the reasons a step can
stop, and the state after reset (70_reset_and_hazards.md R200). -/

namespace Sys2Proof.Machine

/-- The response of a command step (30_encoding.md R84). -/
structure Response where
  ok : Bool
  data : CmdWord
deriving DecidableEq, Repr

/-- The block. The first group is R20, element for element; one-bit elements are `Bool`, `true` being 1. The second
group is the model's own: the implementation parameters as the model's argument (R7) and what stands at the ports. -/
structure State where
  /-- The 4-bit code of the current state (R22, R86). -/
  protocolState : StateCode
  subPhase : Phase
  bitIndex : BitIndex
  shiftByte : Byte
  targetAddress : Addr
  txAddress : Addr
  pendingReceive : Count
  /-- The outbound FIFO, oldest byte first (20_memory.md R60). -/
  outQ : List Byte
  /-- The inbound FIFO, oldest byte first (R61). -/
  inQ : List Byte
  waitFlag : Bool
  extraWait : Count
  /-- The state to resume after an acknowledge slot; `none` is the spec's "no value" (R31). -/
  pendingState : Option ProtoState
  resend : Bool
  /-- `false` Address, `true` Data (R33). -/
  ackKind : Bool
  retryCount : Count
  stsTxOvf : Bool
  stsRxOvf : Bool
  stsNack : Bool
  stsBusTimeout : Bool
  /-- `false` Abort, `true` Retry (R42). -/
  cfgAckPolicy : Bool
  cfgIgnoreAck : Bool
  /-- `false` Reject, `true` Overwrite (R42). -/
  cfgOvfPolicy : Bool
  /-- `true` output (R37). -/
  sclDir : Bool
  sclLvl : Bool
  /-- `true` output (R38). -/
  sdaDir : Bool
  sdaLvl : Bool
  /-- MODEL: the parameters of this machine, which no step writes (R7; log entry 2). -/
  params : Params
  /-- MODEL: the response port, as the last command step left it (R84, R189; log entry 6). -/
  rsp : Option Response
  /-- MODEL: what arrives at the input ports, first arrival first (R70; log entry 4). -/
  input : List PortEvent
  /-- MODEL: the levels the peer presents to the coming samples, first sample first (R130; log entry 5). -/
  peerDraws : List Bool
  /-- MODEL: the level every later sample reads, or `none`: each a free draw (R130, R90; log entry 5). -/
  peerRest : Option Bool
  /-- MODEL: how many free values the run has used. -/
  freeCount : Nat
deriving DecidableEq, Repr

/-- The model faults of 60_exceptions.md R182: each marks a state that no run from reset reaches. All are safe: the
model stops where the spec gives no chip behaviour. -/
inductive Fault where
  /-- A read of `pendingState` while it holds no value; raised by SACK_P1 (R147) and WACK_P3 (R161). Safe. -/
  | pendingStateUndefined
  /-- SDATA_P1 at bit 0 with `outQ` empty and `resend` 0 (R145). Safe. -/
  | outboundUnderflow
  /-- RDATA_P3 at bit 7 with `pendingReceive` 0 (R162). Safe. -/
  | receiveUnderflow
  /-- `SampleSDA` while SDA is driven; raised by WACK_P3 and RDATA_P3 (R130). Safe. -/
  | readWhileDriving
  /-- A tick whose key has a state code from 10 to 15; raised by the two TICK_RESERVED rows (R88). Safe. -/
  | reservedState
deriving DecidableEq, Repr

/-- Why a step has no meaning. -/
inductive Refusal where
  /-- An instruction without a meaning yet: raised by `exec`'s refused arms only, and there are none. Safe. -/
  | notModelled (mnemonic : String)
deriving DecidableEq, Repr

/-- The state after reset: the reset column of R20 as R200 assigns it. The ports are the model's: no command answered
yet, nothing known of what arrives or of the peer, and the parameters open. -/
def State.reset : State where
  protocolState := 0#4
  subPhase := 0#2
  bitIndex := 0#3
  shiftByte := 0x00#8
  targetAddress := 0x00#7
  txAddress := 0x00#7
  pendingReceive := 0#16
  outQ := []
  inQ := []
  waitFlag := false
  extraWait := 0#16
  pendingState := none
  resend := false
  ackKind := false
  retryCount := 0#16
  stsTxOvf := false
  stsRxOvf := false
  stsNack := false
  stsBusTimeout := false
  cfgAckPolicy := false
  cfgIgnoreAck := false
  cfgOvfPolicy := true
  sclDir := true
  sclLvl := true
  sdaDir := true
  sdaLvl := true
  params := Config.params
  rsp := none
  input := []
  peerDraws := []
  peerRest := none
  freeCount := 0

end Sys2Proof.Machine
end

