-- ==== Sys2Proof/Machine/Operands.lean ====
section
/-! DEFINITION. The operand forms: the bits that go out on and come in from SDA, most significant first
(20_memory.md R66), and the operand fields of commands (30_encoding.md R85, R89). -/

namespace Sys2Proof.Machine

/-- The address bit of position `i`, `txAddress[6 - i]` (R142), for `i` at most 6. -/
def addressBit (a : Addr) (i : BitIndex) : Bool := a.getLsbD (6 - i.toNat)

/-- The data bit of position `i`, `shiftByte[7 - i]` (R145). -/
def dataBit (b : Byte) (i : BitIndex) : Bool := b.getLsbD (7 - i.toNat)

/-- `b` with the bit of position `i`, `b[7 - i]`, written with `d` (R162). -/
def withDataBit (b : Byte) (i : BitIndex) (d : Bool) : Byte :=
  (b &&& ~~~(1#8 <<< (7 - i.toNat))) ||| ((BitVec.ofBool d).setWidth 8 <<< (7 - i.toNat))

/-- The operand of READ at the width of `pendingReceive`, `zext_16` (R85). -/
def readCount (n : BitVec 12) : Count := n.setWidth 16

/-- The data of a POPRX response that carries a byte: VALID, seven zeros, the byte (R84, R104). -/
def poppedWord (b : Byte) : CmdWord := 1#1 ++ 0#7 ++ b

end Sys2Proof.Machine
end

