-- ==== Sys2Proof/Machine/Ops.lean ====
section
/-! DEFINITION. The named operations every meaning is made of: pins (41_tick_sequencer.md R127 to R130), queues
(20_memory.md R62, R63), the state and sub-phase, the abort procedure (42_protocol_states.md R166), the response port
(30_encoding.md R84), and the arrivals at the input ports (20_memory.md R70). The block has no trap to take and none to
return from (60_exceptions.md R180, R185, R186); the one shared operation of error handling is `abort`. -/

namespace Sys2Proof.Machine

/-! ### The control point -/

/-- `protocolState <- p`: the control transfer of R11. -/
def enter (p : ProtoState) (s : State) : State := { s with protocolState := p.code }

/-- Whether `protocolState` is `p`. -/
def inState (p : ProtoState) (s : State) : Bool := decide (s.protocolState = p.code)

/-- `subPhase <- (p + 1) mod 4` (R121). -/
def advance (s : State) : State := { s with subPhase := s.subPhase + 1#2 }

/-- The tick dispatch key of the state (30_encoding.md R87). -/
def tickKey (s : State) : TickKey :=
  keyOf (decide (s.extraWait ≠ 0#16)) s.waitFlag s.protocolState s.subPhase

/-- Work is pending: `Len(outQ) > 0 or pendingReceive > 0` (R140, R160). -/
def workPending (s : State) : Bool := decide (s.outQ ≠ [] ∨ s.pendingReceive ≠ 0#16)

/-! ### Pins -/

/-- `DriveSCL(v)` (R127). -/
def driveSCL (v : Bool) (s : State) : State := { s with sclDir := true, sclLvl := v }

/-- `DriveSDA(v)` (R128). -/
def driveSDA (v : Bool) (s : State) : State := { s with sdaDir := true, sdaLvl := v }

/-- `ReleaseSDA()` (R129). -/
def releaseSDA (s : State) : State := { s with sdaDir := false }

/-- One draw from the peer: the next listed level, else the standing level, else a free value (R130). -/
def drawPeer (s : State) : Bool × State :=
  match s.peerDraws, s.peerRest with
  | d :: ds, _ => (d, { s with peerDraws := ds })
  | [], some d => (d, s)
  | [], none => (Config.peerLevel s.freeCount, { s with freeCount := s.freeCount + 1 })

/-- `SampleSDA()` (R130), handing the level and the state after the draw to `k`. -/
def sampleSDA (s : State) (k : Bool → State → Host.Outcome State Fault Refusal) : Host.Outcome State Fault Refusal :=
  if s.sdaDir then .fault .readWhileDriving else k (drawPeer s).1 (drawPeer s).2

/-- The level of the SCL line (10_state.md R37): the block never releases SCL. -/
def sclLine (s : State) : Bool := s.sclLvl

/-- The level of the SDA line the peer sees (R38). -/
def sdaLine (peerPullsLow : Bool) (s : State) : Bool := if s.sdaDir then s.sdaLvl else !peerPullsLow

/-- The output ports of the block (60_exceptions.md R189). -/
structure OutPorts where
  sclOe : Bool
  sclO : Bool
  sdaOe : Bool
  sdaO : Bool
  /-- `rsp_ok` and `rsp_data` of the last command. -/
  rsp : Option Response
deriving DecidableEq, Repr

/-- What stands at the output ports (R189). -/
def outPorts (s : State) : OutPorts := ⟨s.sclDir, s.sclLvl, s.sdaDir, s.sdaLvl, s.rsp⟩

/-! ### Queues -/

/-- `PushOut(b)` (R62): `accepted` and the state after. -/
def pushOut (b : Byte) (s : State) : Bool × State :=
  if s.outQ.length < s.params.outqCap then (true, { s with outQ := s.outQ ++ [b] })
  else if s.cfgOvfPolicy then (true, { s with stsTxOvf := true, outQ := s.outQ.tail ++ [b] })
  else (false, { s with stsTxOvf := true })

/-- `PushIn(b)` (R63). -/
def pushIn (b : Byte) (s : State) : State :=
  if s.inQ.length = s.params.inqCap then { s with stsRxOvf := true, inQ := s.inQ.tail ++ [b] }
  else { s with inQ := s.inQ ++ [b] }

/-! ### Error handling -/

/-- `Abort()` (R166). -/
def abort (s : State) : State :=
  { s with outQ := [], pendingReceive := 0#16, resend := false, pendingState := none,
           protocolState := ProtoState.stop.code }

/-! ### The response port -/

/-- `return (ok, data)` of a command step (R84). -/
def respond (ok : Bool) (data : CmdWord) (s : State) : State := { s with rsp := some ⟨ok, data⟩ }

/-! ### The input ports -/

/-- The next arrival and the state without it: the first one listed; with none listed, any number of free host steps and
then a tick come up (R70). No list of arrivals is endless, so a tick comes after finitely many steps of the host: the weak
fairness of R131 (log entry 4). -/
def takeEvent (s : State) : PortEvent × State :=
  match s.input with
  | e :: es => (e, { s with input := es })
  | [] =>
    match Config.hostSteps s.freeCount with
    | e :: es => (e, { s with input := es ++ [.tick], freeCount := s.freeCount + 1 })
    | [] => (.tick, { s with freeCount := s.freeCount + 1 })

/-- The `rst` input (R200): every element of R20 takes its reset value. The parameters, what is yet to arrive and what
the peer will present are the outside's and stay. -/
def applyReset (s : State) : State :=
  { State.reset with
    params := s.params, input := s.input, peerDraws := s.peerDraws, peerRest := s.peerRest, freeCount := s.freeCount }

/-- Put one arrival in front of all others. -/
def present (e : PortEvent) (s : State) : State := { s with input := e :: s.input }

/-- Put the control point where its key is `k` (R87): the three fields the key holds, and the extra-wait counter zero or
not as the gate bit says. -/
def placeKey (k : TickKey) (s : State) : State :=
  { s with
    extraWait := if k.getLsbD 7 then (if s.extraWait = 0#16 then 1#16 else s.extraWait) else 0#16
    waitFlag := k.getLsbD 6
    protocolState := k.extractLsb' 2 4
    subPhase := k.extractLsb' 0 2 }

/-- Make a coded instruction the one the next step runs (log entry 8). -/
def placeCode (c : Code) (s : State) : State :=
  match c with
  | .cmd w => present (.command w) s
  | .key k => present .tick (placeKey k s)

/-- Make the table word `w` of `nbits` bits the instruction the next step runs; a width the table does not have changes
nothing (log entry 8). -/
def placeTableWord (nbits w : Nat) (s : State) : State :=
  match codeOfTableWord nbits w with
  | .ok c => placeCode c s
  | .error _ => s

end Sys2Proof.Machine
end

