-- ==== Sys2Proof/Machine/Flags.lean ====
section
/-! DEFINITION. Every flag the spec gives and the registers that show them: the one-phase pause (10_state.md R29), the
sticky status bits (R35), the retry count (R34), and the register map read by RDREG (R40 to R49). -/

namespace Sys2Proof.Machine

/-- Arm the one-phase pause: `waitFlag <- 1` (R29). -/
def armPause (s : State) : State := { s with waitFlag := true }

/-- STATUS.BUSY: `protocolState != Idle` or `extraWait != 0` (R41). -/
def busy (s : State) : Bool := !inState .idle s || decide (s.extraWait ≠ 0#16)

/-- CLRSTS: clear the sticky bits the mask selects (R89, R107). -/
def clearSticky (m : BitVec 4) (s : State) : State :=
  { s with
    stsTxOvf := s.stsTxOvf && !m.getLsbD 0
    stsRxOvf := s.stsRxOvf && !m.getLsbD 1
    stsNack := s.stsNack && !m.getLsbD 2
    stsBusTimeout := s.stsBusTimeout && !m.getLsbD 3 }

/-- `if RETRY_LIMIT != 0: retryCount <- 0` (R161). -/
def zeroRetry (s : State) : State := if s.params.retryLimit = 0 then s else { s with retryCount := 0#16 }

/-- `retryCount + 1 >= RETRY_LIMIT` with the limit in force (R161), the sum computed on unbounded naturals (R9; DEDUCED,
log entry 11). -/
def retryLimitReached (s : State) : Bool :=
  decide (s.params.retryLimit ≠ 0 ∧ s.params.retryLimit ≤ s.retryCount.toNat + 1)

/-- `if RETRY_LIMIT != 0: retryCount <- retryCount + 1` (R161). The sum 0x10000, which 16 bits do not hold and a limit above
it lets the count reach, is a free value (DESIGN CHOICE, log entry 3). -/
def countRetry (s : State) : State :=
  if s.params.retryLimit = 0 then s
  else if s.retryCount = 0xFFFF#16 then
    { s with retryCount := Config.openCount s.freeCount, freeCount := s.freeCount + 1 }
  else { s with retryCount := s.retryCount + 1#16 }

/-! ### The registers -/

/-- Register 0, STATUS (R41). -/
def statusWord (s : State) : CmdWord :=
  0#4 ++ BitVec.ofBool s.stsBusTimeout ++ BitVec.ofBool s.stsNack ++ BitVec.ofBool s.stsRxOvf
    ++ BitVec.ofBool s.stsTxOvf ++ BitVec.ofBool (busy s) ++ BitVec.ofBool s.waitFlag ++ s.subPhase ++ s.protocolState

/-- Register 1, CONFIG (R42). -/
def configWord (s : State) : CmdWord :=
  0#13 ++ BitVec.ofBool s.cfgOvfPolicy ++ BitVec.ofBool s.cfgIgnoreAck ++ BitVec.ofBool s.cfgAckPolicy

/-- Register 2, ADDR (R43). -/
def addrWord (s : State) : CmdWord := 0#9 ++ s.targetAddress

/-- Register 3, TXLEN (R44). -/
def txlenWord (s : State) : CmdWord := BitVec.ofNat 16 s.outQ.length

/-- Register 4, RXLEN (R45). -/
def rxlenWord (s : State) : CmdWord := BitVec.ofNat 16 s.inQ.length

/-- Register 6, CTX (R47). -/
def ctxWord (s : State) : CmdWord :=
  0#3 ++ BitVec.ofBool s.ackKind ++ BitVec.ofBool s.resend ++ s.bitIndex ++ 0#1 ++ s.txAddress

/-- The register of number `r`; 8 to 15 are reserved (R40, R49). -/
def register (r : BitVec 4) (s : State) : Option CmdWord :=
  match r.toNat with
  | 0 => some (statusWord s)
  | 1 => some (configWord s)
  | 2 => some (addrWord s)
  | 3 => some (txlenWord s)
  | 4 => some (rxlenWord s)
  | 5 => some s.pendingReceive
  | 6 => some (ctxWord s)
  | 7 => some s.extraWait
  | _ => none

end Sys2Proof.Machine
end

