-- ==== Sys2Proof/Machine/HostCommands.lean ====
section
/-! DEFINITION. The host commands (40_host_commands.md R100 to R108): one meaning per command, each one atomic step that
puts its response on the response port. No command faults and none touches a pin. -/

namespace Sys2Proof.Machine

/-- NOP (R100). -/
def execNop (s : State) : Host.Outcome State Fault Refusal := .next (respond true 0#16 s)

/-- SETADDR (R101). -/
def execSetaddr (a : Addr) (s : State) : Host.Outcome State Fault Refusal :=
  .next (respond true 0#16 { s with targetAddress := a })

/-- WRITE (R102). -/
def execWrite (b : Byte) (s : State) : Host.Outcome State Fault Refusal :=
  .next (respond (pushOut b s).1 0#16 (pushOut b s).2)

/-- READ (R103): the sum is computed without wrap. -/
def execRead (n : BitVec 12) (s : State) : Host.Outcome State Fault Refusal :=
  if s.pendingReceive.toNat + (readCount n).toNat > 0xFFFF then .next (respond false 0#16 s)
  else .next (respond true 0#16 { s with pendingReceive := s.pendingReceive + readCount n })

/-- POPRX (R104). -/
def execPoprx (s : State) : Host.Outcome State Fault Refusal :=
  match s.inQ with
  | [] => .next (respond true 0#16 s)
  | b :: q => .next (respond true (poppedWord b) { s with inQ := q })

/-- RDREG (R105). -/
def execRdreg (r : BitVec 4) (s : State) : Host.Outcome State Fault Refusal :=
  match register r s with
  | some v => .next (respond true v s)
  | none => .next (respond false 0#16 s)

/-- SETCFG (R106). -/
def execSetcfg (ackpol ignack ovfpol : Bool) (s : State) : Host.Outcome State Fault Refusal :=
  if inState .idle s then
    .next (respond true 0#16 { s with cfgAckPolicy := ackpol, cfgIgnoreAck := ignack, cfgOvfPolicy := ovfpol })
  else .next (respond false 0#16 s)

/-- CLRSTS (R107). -/
def execClrsts (m : BitVec 4) (s : State) : Host.Outcome State Fault Refusal :=
  .next (respond true 0#16 (clearSticky m s))

/-- RESERVED: OP 0x8 to 0xF (R108). -/
def execReserved (_rest : BitVec 15) (s : State) : Host.Outcome State Fault Refusal := .next (respond false 0#16 s)

/-- ILLEGAL: a must-be-0 bit set (R108). -/
def execIllegal (_w : CmdWord) (s : State) : Host.Outcome State Fault Refusal := .next (respond false 0#16 s)

end Sys2Proof.Machine
end

