-- ==== Sys2Proof/Machine/Phase1.lean ====
section
/-! DEFINITION. The sub-phase 1 actions (42_protocol_states.md R140 to R149). `waitFlag` does not select among them
(30_encoding.md R87: its key bit is ignored at sub-phase 1), so their operand is not read. -/

namespace Sys2Proof.Machine

/-- IDLE_P1 (R140): begin a transaction when work is pending, latching the address. -/
def execIdleP1 (_wf : Bool) (s : State) : Host.Outcome State Fault Refusal :=
  if workPending s then .next (advance (enter .start { s with txAddress := s.targetAddress })) else .next (advance s)

/-- START_P1 (R141): no action. -/
def execStartP1 (_wf : Bool) (s : State) : Host.Outcome State Fault Refusal := .next (advance s)

/-- SADDR_P1 at `bitIndex` 7, which R142 calls never reached and whose bit number 6 - 7 and sum 7 + 1 name no value:
the level and the index are free values (log entry 9). -/
def openAddressBit (s : State) : State :=
  { driveSDA (Config.openLevel s.freeCount) s with
    bitIndex := Config.openIndex s.freeCount, freeCount := s.freeCount + 1 }

/-- The next address bit goes out, and after the seventh the state is SendReadWriteBit (R142). -/
def sendAddressBit (s : State) : State :=
  if s.bitIndex = 7#3 then openAddressBit s
  else if s.bitIndex = 6#3 then
    enter .sendReadWriteBit { driveSDA (addressBit s.txAddress s.bitIndex) s with bitIndex := 0#3 }
  else { driveSDA (addressBit s.txAddress s.bitIndex) s with bitIndex := s.bitIndex + 1#3 }

/-- SADDR_P1 (R142). -/
def execSaddrP1 (_wf : Bool) (s : State) : Host.Outcome State Fault Refusal := .next (advance (sendAddressBit s))

/-- Open an acknowledge slot after a byte of kind `kind`, to resume at `p`: pause, state WaitForAcknowledge
(R143, R145). -/
def openAckSlot (kind : Bool) (p : ProtoState) (s : State) : State :=
  enter .waitForAcknowledge (armPause { s with pendingState := some p, ackKind := kind })

/-- SRW_P1 (R143): the direction bit, 0 for write when `outQ` is non-empty, else 1 for read. -/
def execSrwP1 (_wf : Bool) (s : State) : Host.Outcome State Fault Refusal :=
  if s.outQ = [] then .next (advance (openAckSlot false .receiveData (driveSDA true s)))
  else .next (advance (openAckSlot false .sendData (driveSDA false s)))

/-- WACK_P1 (R144): release SDA for the peer. -/
def execWackP1 (_wf : Bool) (s : State) : Host.Outcome State Fault Refusal := .next (advance (releaseSDA s))

/-- Drive the data bit of the current position, and after the eighth open the acknowledge slot (R145, from
`DriveSDA` on). -/
def sendDataBit (s : State) : State :=
  if s.bitIndex = 7#3 then
    openAckSlot true (if s.outQ = [] then .stop else .sendData)
      { driveSDA (dataBit s.shiftByte s.bitIndex) s with bitIndex := 0#3 }
  else { driveSDA (dataBit s.shiftByte s.bitIndex) s with bitIndex := s.bitIndex + 1#3 }

/-- SDATA_P1 (R145): at bit 0 take the next byte, or the same one again when `resend` is set. -/
def execSdataP1 (_wf : Bool) (s : State) : Host.Outcome State Fault Refusal :=
  if s.bitIndex = 0#3 then
    if s.resend then .next (advance (sendDataBit { s with resend := false }))
    else
      match s.outQ with
      | [] => .fault .outboundUnderflow
      | b :: q => .next (advance (sendDataBit { s with shiftByte := b, outQ := q }))
  else .next (advance (sendDataBit s))

/-- RDATA_P1 (R146): at bit 0 release SDA and zero the accumulator. -/
def execRdataP1 (_wf : Bool) (s : State) : Host.Outcome State Fault Refusal :=
  if s.bitIndex = 0#3 then .next (advance { releaseSDA s with shiftByte := 0x00#8 }) else .next (advance s)

/-- Drive the master's acknowledge bit with the pause armed and go to `p`, with no state pending (R147, R148). -/
def masterAck (v : Bool) (p : ProtoState) (s : State) : State :=
  { enter p (armPause (driveSDA v s)) with pendingState := none }

/-- SACK_P1 (R147): the master ACK. -/
def execSackP1 (_wf : Bool) (s : State) : Host.Outcome State Fault Refusal :=
  match s.pendingState with
  | none => .fault .pendingStateUndefined
  | some p => .next (advance (masterAck false p s))

/-- SNACK_P1 (R148): the master NACK. -/
def execSnackP1 (_wf : Bool) (s : State) : Host.Outcome State Fault Refusal := .next (advance (masterAck true .stop s))

/-- STOP_P1 (R149): SDA low, and the bus-free pause armed. -/
def execStopP1 (_wf : Bool) (s : State) : Host.Outcome State Fault Refusal :=
  .next (advance { driveSDA false s with extraWait := s.params.stopWait })

end Sys2Proof.Machine
end

