-- ==== Sys2Proof/Machine/Phase3.lean ====
section
/-! DEFINITION. The sub-phase 3 actions, with the pause not armed (42_protocol_states.md R160 to R164). -/

namespace Sys2Proof.Machine

/-- IDLE_P3 (R164): no action. -/
def execIdleP3 (s : State) : Host.Outcome State Fault Refusal := .next (advance s)

/-- START_P3 (R160): the START edge while work is pending, else Idle without an edge. -/
def execStartP3 (s : State) : Host.Outcome State Fault Refusal :=
  if workPending s then .next (advance (enter .sendAddress { driveSDA false s with extraWait := s.params.startWait }))
  else .next (advance (enter .idle s))

/-- SADDR_P3 (R164): no action. -/
def execSaddrP3 (s : State) : Host.Outcome State Fault Refusal := .next (advance s)

/-- SRW_P3 (R164): no action. -/
def execSrwP3 (s : State) : Host.Outcome State Fault Refusal := .next (advance s)

/-- The acknowledged branch of R161: resume the pending state `p`. -/
def ackTaken (p : ProtoState) (s : State) : State := zeroRetry (enter p { s with pendingState := none })

/-- The Retry policy below the limit (R161): resend the data byte, or after the address stop with the work kept. -/
def retrySlot (s : State) : State :=
  if s.ackKind then enter .sendData { s with pendingState := none, resend := true }
  else enter .stop { s with pendingState := none }

/-- The not-acknowledged branch of R161: NACK recorded, then the policy, and under Retry the limit before the resend
(60_exceptions.md R184 (c)). -/
def ackMissed (s : State) : State :=
  if s.cfgAckPolicy then
    if retryLimitReached s then abort { s with stsNack := true, stsBusTimeout := true, retryCount := 0#16 }
    else retrySlot (countRetry { s with stsNack := true })
  else abort (zeroRetry { s with stsNack := true })

/-- The acknowledge slot's outcome on the sampled level `d` (R161): ACK is the line low, or the override. -/
def resolveAck (p : ProtoState) (d : Bool) (s : State) : State :=
  if !d || s.cfgIgnoreAck then ackTaken p s else ackMissed s

/-- WACK_P3 (R161). -/
def execWackP3 (s : State) : Host.Outcome State Fault Refusal :=
  match s.pendingState with
  | none => .fault .pendingStateUndefined
  | some p => sampleSDA s (fun d s' => .next (advance (resolveAck p d s')))

/-- SDATA_P3 (R164): no action. -/
def execSdataP3 (s : State) : Host.Outcome State Fault Refusal := .next (advance s)

/-- The end of a received byte (R162, after the underflow check): the byte is queued and counted, and acknowledged if
more remain. -/
def completeByte (b : Byte) (s : State) : State :=
  if s.pendingReceive = 1#16 then
    enter .sendNoAcknowledge
      { pushIn b s with bitIndex := 0#3, shiftByte := b, pendingReceive := 0#16, pendingState := some .stop }
  else
    enter .sendAcknowledge
      { pushIn b s with
        bitIndex := 0#3, shiftByte := b, pendingReceive := s.pendingReceive - 1#16, pendingState := some .receiveData }

/-- R162 on the sampled level `d`. -/
def receiveBit (d : Bool) (s : State) : Host.Outcome State Fault Refusal :=
  if s.bitIndex = 7#3 then
    if s.pendingReceive = 0#16 then .fault .receiveUnderflow
    else .next (advance (completeByte (withDataBit s.shiftByte s.bitIndex d) s))
  else
    .next (advance { s with shiftByte := withDataBit s.shiftByte s.bitIndex d, bitIndex := s.bitIndex + 1#3 })

/-- RDATA_P3 (R162). -/
def execRdataP3 (s : State) : Host.Outcome State Fault Refusal := sampleSDA s receiveBit

/-- SACK_P3 (R164): no action. -/
def execSackP3 (s : State) : Host.Outcome State Fault Refusal := .next (advance s)

/-- SNACK_P3 (R164): no action. -/
def execSnackP3 (s : State) : Host.Outcome State Fault Refusal := .next (advance s)

/-- STOP_P3 (R163): the STOP edge. -/
def execStopP3 (s : State) : Host.Outcome State Fault Refusal := .next (advance (enter .idle (driveSDA true s)))

end Sys2Proof.Machine
end

