-- ==== Sys2Proof/Machine/TickSequencer.lean ====
section
/-! DEFINITION. The ticks that reach no per-state action (41_tick_sequencer.md R120 to R124) and the reserved state codes
(30_encoding.md R88). A meaning reads the state elements its rule names; the key bits that selected the row are the same
elements, since the step makes the key from the state (log entry 10). -/

namespace Sys2Proof.Machine

/-- TICK_CONSUME (R120): the tick is consumed and nothing but the counter changes. -/
def execTickConsume (_wf : Bool) (_st : StateCode) (_ph : Phase) (s : State) : Host.Outcome State Fault Refusal :=
  if s.extraWait = 0#16 then .next s else .next { s with extraWait := s.extraWait - 1#16 }

/-- TICK_RESERVED_10_11 (R88). -/
def execTickReserved1011 (_wf : Bool) (_c : BitVec 1) (_ph : Phase) (_s : State) : Host.Outcome State Fault Refusal :=
  .fault .reservedState

/-- TICK_RESERVED_12_15 (R88). -/
def execTickReserved1215 (_wf : Bool) (_c : BitVec 2) (_ph : Phase) (_s : State) : Host.Outcome State Fault Refusal :=
  .fault .reservedState

/-- Drive SCL unless Idle: `ClockLow()` and `ClockHigh()` (R122, R123). -/
def clockEdge (v : Bool) (s : State) : State := if inState .idle s then s else driveSCL v s

/-- TICK_P0 (R122): `ClockLow()`. -/
def execTickP0 (_wf : Bool) (_st : StateCode) (s : State) : Host.Outcome State Fault Refusal :=
  .next (advance (clockEdge false s))

/-- TICK_P2 (R123): `ClockHigh()`. -/
def execTickP2 (_wf : Bool) (_st : StateCode) (s : State) : Host.Outcome State Fault Refusal :=
  .next (advance (clockEdge true s))

/-- TICK_P3_PAUSE (R124): the pause is consumed. -/
def execTickP3Pause (_st : StateCode) (s : State) : Host.Outcome State Fault Refusal :=
  .next (advance { s with waitFlag := false })

end Sys2Proof.Machine
end

