-- ==== Sys2Proof/Machine/Dispatch.lean ====
section
/-! DEFINITION. One arm per instruction, each one call of its meaning. -/

namespace Sys2Proof.Machine

def exec (i : Instr) (s : State) : Host.Outcome State Fault Refusal :=
  match i with
  | .nop => Sys2Proof.Machine.execNop s
  | .setaddr a => Sys2Proof.Machine.execSetaddr a s
  | .write b => Sys2Proof.Machine.execWrite b s
  | .read n => Sys2Proof.Machine.execRead n s
  | .poprx => Sys2Proof.Machine.execPoprx s
  | .rdreg r => Sys2Proof.Machine.execRdreg r s
  | .setcfg ackpol ignack ovfpol => Sys2Proof.Machine.execSetcfg ackpol ignack ovfpol s
  | .clrsts m => Sys2Proof.Machine.execClrsts m s
  | .reserved rest => Sys2Proof.Machine.execReserved rest s
  | .illegal w => Sys2Proof.Machine.execIllegal w s
  | .tickConsume wf st ph => Sys2Proof.Machine.execTickConsume wf st ph s
  | .tickReserved1011 wf c ph => Sys2Proof.Machine.execTickReserved1011 wf c ph s
  | .tickReserved1215 wf c ph => Sys2Proof.Machine.execTickReserved1215 wf c ph s
  | .tickP0 wf st => Sys2Proof.Machine.execTickP0 wf st s
  | .tickP2 wf st => Sys2Proof.Machine.execTickP2 wf st s
  | .tickP3Pause st => Sys2Proof.Machine.execTickP3Pause st s
  | .idleP1 wf => Sys2Proof.Machine.execIdleP1 wf s
  | .startP1 wf => Sys2Proof.Machine.execStartP1 wf s
  | .saddrP1 wf => Sys2Proof.Machine.execSaddrP1 wf s
  | .srwP1 wf => Sys2Proof.Machine.execSrwP1 wf s
  | .wackP1 wf => Sys2Proof.Machine.execWackP1 wf s
  | .sdataP1 wf => Sys2Proof.Machine.execSdataP1 wf s
  | .rdataP1 wf => Sys2Proof.Machine.execRdataP1 wf s
  | .sackP1 wf => Sys2Proof.Machine.execSackP1 wf s
  | .snackP1 wf => Sys2Proof.Machine.execSnackP1 wf s
  | .stopP1 wf => Sys2Proof.Machine.execStopP1 wf s
  | .idleP3 => Sys2Proof.Machine.execIdleP3 s
  | .startP3 => Sys2Proof.Machine.execStartP3 s
  | .saddrP3 => Sys2Proof.Machine.execSaddrP3 s
  | .srwP3 => Sys2Proof.Machine.execSrwP3 s
  | .wackP3 => Sys2Proof.Machine.execWackP3 s
  | .sdataP3 => Sys2Proof.Machine.execSdataP3 s
  | .rdataP3 => Sys2Proof.Machine.execRdataP3 s
  | .sackP3 => Sys2Proof.Machine.execSackP3 s
  | .snackP3 => Sys2Proof.Machine.execSnackP3 s
  | .stopP3 => Sys2Proof.Machine.execStopP3 s

end Sys2Proof.Machine
end

