-- ==== Sys2Proof/Machine/Arrival.lean ====
section
/-! DEFINITION. What one arrival at the input ports does (60_exceptions.md R183, R189): a command word and a tick are each
decoded and executed, and `rst` applies the reset. -/

namespace Sys2Proof.Machine

/-- Take one arrival in the state it meets. A tick is decoded from the key of that state (30_encoding.md R87). -/
def arrive (e : PortEvent) (s : State) : Host.Outcome State Fault Refusal :=
  match e with
  | .command w => exec (decodeCommand w) s
  | .tick => exec (decodeKey (tickKey s)) s
  | .rst => .next (applyReset s)

end Sys2Proof.Machine
end

