-- ==== Sys2Proof/Machine/Step.lean ====
section
/-! DEFINITION. One step of the block: the next arrival at its ports (20_memory.md R70, R71) is taken whole. Three
outcomes: a next state, a model fault, a refusal (of which this model has none left). -/

namespace Sys2Proof.Machine

/-- One atomic step of whichever agent moves next. -/
def step (s : State) : Host.Outcome State Fault Refusal := arrive (takeEvent s).1 (takeEvent s).2

/-- `s` with the table word `w` of `nbits` bits as the instruction the next step runs: a command word is presented on
the command port; a tick key sets the control point it names and presents a tick (log entry 8). -/
def State.withFetchWord (s : State) (nbits w : Nat) : State := placeTableWord nbits w s

end Sys2Proof.Machine
end

