-- ==== Sys2Proof/Machine/Assembler.lean ====
section
/-! DEFINITION. The assembler syntax (30_encoding.md R90), the expansions of the source's API calls (R91), and how a host
program comes to stand at the input ports. None of it is part of the block: it is the host's side of the command port. -/

namespace Sys2Proof.Machine

/-- The register names of R90. -/
inductive RegName where
  | status | config | addr | txlen | rxlen | pendrx | ctx | extrawait
deriving DecidableEq, Repr

/-- The number of a named register (R90). -/
def regNumber : RegName → Nat
  | .status => 0
  | .config => 1
  | .addr => 2
  | .txlen => 3
  | .rxlen => 4
  | .pendrx => 5
  | .ctx => 6
  | .extrawait => 7

/-- The keywords of SETCFG (R90). -/
inductive CfgWord where
  | retry | abort | ignack | reject | overwrite
deriving DecidableEq, Repr

/-- One line of a host program, its operands as read (R90). -/
inductive AsmLine where
  | nop
  | setaddr (a : Nat)
  | write (b : Nat)
  | read (n : Nat)
  | poprx
  | rdreg (r : Nat)
  | rdregNamed (r : RegName)
  | setcfg (k : Nat)
  | setcfgWords (ks : List CfgWord)
  | clrsts (m : Nat)
  | clrstsAll
deriving DecidableEq, Repr

/-- An operand of `width` bits; an operand out of range is refused, not truncated (R90). -/
def asmOperand (width n : Nat) : Option (BitVec width) :=
  if n < 2 ^ width then some (BitVec.ofNat width n) else none

/-- SETCFG from keywords: an omitted keyword gives bit 0 (R90), also when every one is omitted (DESIGN CHOICE, log entry
12). A keyword given twice and two keywords for one bit are refused (DESIGN CHOICE, log entry 12). -/
def asmSetcfg (ks : List CfgWord) : Option Instr :=
  if ks.Nodup ∧ ¬(.retry ∈ ks ∧ .abort ∈ ks) ∧ ¬(.reject ∈ ks ∧ .overwrite ∈ ks) then
    some (.setcfg (decide (.retry ∈ ks)) (decide (.ignack ∈ ks)) (decide (.overwrite ∈ ks)))
  else none

/-- The instruction of a line (R90). -/
def assemble : AsmLine → Option Instr
  | .nop => some .nop
  | .setaddr a => (asmOperand 7 a).map .setaddr
  | .write b => (asmOperand 8 b).map .write
  | .read n => (asmOperand 12 n).map .read
  | .poprx => some .poprx
  | .rdreg r => (asmOperand 4 r).map .rdreg
  | .rdregNamed r => (asmOperand 4 (regNumber r)).map .rdreg
  | .setcfg k => (asmOperand 3 k).map (fun v => .setcfg (v.getLsbD 0) (v.getLsbD 1) (v.getLsbD 2))
  | .setcfgWords ks => asmSetcfg ks
  | .clrsts m => (asmOperand 4 m).map .clrsts
  | .clrstsAll => some (.clrsts 0xF#4)

/-- The command word of a line. -/
def assembleWord (l : AsmLine) : Option CmdWord :=
  match (assemble l).map encode with
  | some (.cmd w) => some w
  | _ => none

/-! ### Reading a line of text -/

/-- The words of a line: runs of characters between spaces (PRESUMED, log entry 12). -/
def splitOn (sep : Char) : List Char → List (List Char)
  | [] => [[]]
  | c :: cs =>
    match splitOn sep cs with
    | [] => [[c]]
    | w :: ws => if c = sep then [] :: w :: ws else (c :: w) :: ws

/-- The value of a digit, decimal or hexadecimal. -/
def digitValue (c : Char) : Option Nat :=
  if '0' ≤ c ∧ c ≤ '9' then some (c.toNat - '0'.toNat)
  else if 'a' ≤ c ∧ c ≤ 'f' then some (c.toNat - 'a'.toNat + 10)
  else if 'A' ≤ c ∧ c ≤ 'F' then some (c.toNat - 'A'.toNat + 10)
  else none

/-- The digits of a number in a base, most significant first, on top of the value read so far. -/
def readDigits (base : Nat) : Nat → List Char → Option Nat
  | acc, [] => some acc
  | acc, c :: cs =>
    match digitValue c with
    | some d => if d < base then readDigits base (base * acc + d) cs else none
    | none => none

/-- A decimal or `0x` hexadecimal number (R90). -/
def readNumber : List Char → Option Nat
  | [] => none
  | '0' :: 'x' :: d :: ds => readDigits 16 0 (d :: ds)
  | d :: ds => readDigits 10 0 (d :: ds)

/-- A register name (R90). -/
def readRegName (w : List Char) : Option RegName :=
  if w = ['S', 'T', 'A', 'T', 'U', 'S'] then some .status
  else if w = ['C', 'O', 'N', 'F', 'I', 'G'] then some .config
  else if w = ['A', 'D', 'D', 'R'] then some .addr
  else if w = ['T', 'X', 'L', 'E', 'N'] then some .txlen
  else if w = ['R', 'X', 'L', 'E', 'N'] then some .rxlen
  else if w = ['P', 'E', 'N', 'D', 'R', 'X'] then some .pendrx
  else if w = ['C', 'T', 'X'] then some .ctx
  else if w = ['E', 'X', 'T', 'R', 'A', 'W', 'A', 'I', 'T'] then some .extrawait
  else none

/-- A SETCFG keyword (R90). -/
def readCfgWord (w : List Char) : Option CfgWord :=
  if w = ['r', 'e', 't', 'r', 'y'] then some .retry
  else if w = ['a', 'b', 'o', 'r', 't'] then some .abort
  else if w = ['i', 'g', 'n', 'a', 'c', 'k'] then some .ignack
  else if w = ['r', 'e', 'j', 'e', 'c', 't'] then some .reject
  else if w = ['o', 'v', 'e', 'r', 'w', 'r', 'i', 't', 'e'] then some .overwrite
  else none

/-- The keywords of a list joined by `,` (R90). -/
def readCfgWords : List (List Char) → Option (List CfgWord)
  | [] => some []
  | w :: ws =>
    match readCfgWord w, readCfgWords ws with
    | some k, some ks => some (k :: ks)
    | _, _ => none

/-- A line with an operand: its mnemonic and the operand's text (R90). -/
def readWithOperand (m o : List Char) : Option AsmLine :=
  if m = ['S', 'E', 'T', 'A', 'D', 'D', 'R'] then (readNumber o).map .setaddr
  else if m = ['W', 'R', 'I', 'T', 'E'] then (readNumber o).map .write
  else if m = ['R', 'E', 'A', 'D'] then (readNumber o).map .read
  else if m = ['R', 'D', 'R', 'E', 'G'] then
    match readRegName o with
    | some r => some (.rdregNamed r)
    | none => (readNumber o).map .rdreg
  else if m = ['S', 'E', 'T', 'C', 'F', 'G'] then
    match readNumber o with
    | some k => some (.setcfg k)
    | none => (readCfgWords (splitOn ',' o)).map .setcfgWords
  else if m = ['C', 'L', 'R', 'S', 'T', 'S'] then
    if o = ['a', 'l', 'l'] then some .clrstsAll else (readNumber o).map .clrsts
  else none

/-- The words of a line before its comment, if it has one: a `;` and what follows it are no part of the line (DESIGN CHOICE,
log entry 12: R90 names no comment, the programs of 95_test_vectors.md carry them). -/
def lineWords (cs : List Char) : List (List Char) :=
  (splitOn ' ' (cs.takeWhile (fun c => decide (c ≠ ';')))).filter (fun w => decide (w ≠ []))

/-- A command line's words: `MNEMONIC operand` or a mnemonic that takes none (R90). SETCFG with every keyword omitted is
read as the keyword list with none (DESIGN CHOICE, log entry 12). -/
def readCommand : List (List Char) → Option AsmLine
  | [m] =>
    if m = ['N', 'O', 'P'] then some .nop
    else if m = ['P', 'O', 'P', 'R', 'X'] then some .poprx
    else if m = ['S', 'E', 'T', 'C', 'F', 'G'] then some (.setcfgWords [])
    else none
  | [m, o] => readWithOperand m o
  | _ => none

/-- One command line of text (R90), with a `;` comment or none (DESIGN CHOICE, log entry 12). -/
def readLine (cs : List Char) : Option AsmLine := readCommand (lineWords cs)

/-! ### The source's API calls -/

/-- The calls of R91 that expand to a fixed list of arrivals. -/
inductive ApiCall where
  /-- `init`: of its three parts only the reset is the block's; pins and Phase Clock are the platform's. -/
  | init
  | setAddress (a : Nat)
  | write (bs : List Nat)
  | read (n : Nat)
deriving DecidableEq, Repr

/-- The command lines of a call (R91). -/
def expandCall : ApiCall → List AsmLine
  | .init => []
  | .setAddress a => [.setaddr a]
  | .write bs => bs.map .write
  | .read n => if n ≤ 0xFFF then [.read n] else List.replicate (n / 0xFFF) (.read 0xFFF) ++ [.read (n % 0xFFF)]

/-- The command every turn of WAITIDLE issues (R91). -/
def waitIdleLine : AsmLine := .rdregNamed .status

/-- Whether a WAITIDLE loop ends on this response: BUSY reads 0 (R91). -/
def waitIdleOver (r : Response) : Bool := !r.data.getLsbD 7

/-- The command every turn of WAITRX issues (R91). -/
def waitRxLine : AsmLine := .rdregNamed .rxlen

/-- Whether a `WAITRX k` loop ends on this response: RXLEN is at least `k` (R91). -/
def waitRxOver (k : Nat) (r : Response) : Bool := decide (k ≤ r.data.toNat)

/-! ### Programs at the ports -/

/-- A line of a test program: a command, a call, or one of the two directives of R90. -/
inductive ProgLine where
  | line (l : AsmLine)
  | call (c : ApiCall)
  /-- `TICKS k`: k tick steps with no host step between them. -/
  | ticks (k : Nat)
  /-- `PEER b0 b1 ...`: the levels of the coming samples, every later one 1. -/
  | peer (ds : List Bool)
deriving DecidableEq, Repr

/-- The levels of a PEER line, each `0` or `1` (R90). -/
def readLevels : List (List Char) → Option (List Bool)
  | [] => some []
  | w :: ws =>
    match readNumber w, readLevels ws with
    | some 0, some ds => some (false :: ds)
    | some 1, some ds => some (true :: ds)
    | _, _ => none

/-- A program line's words: a directive or a command (R90). -/
def readProgWords : List (List Char) → Option ProgLine
  | [] => none
  | m :: os =>
    if m = ['P', 'E', 'E', 'R'] then (readLevels os).map .peer
    else if m = ['T', 'I', 'C', 'K', 'S'] then
      match os with
      | [k] => (readNumber k).map .ticks
      | _ => none
    else (readCommand (m :: os)).map .line

/-- The lines of a program's text. A line with nothing before its comment is no line of the program (DESIGN CHOICE, log
entry 12). -/
def readProgram : List (List Char) → Option (List ProgLine)
  | [] => some []
  | cs :: rest =>
    match lineWords cs, readProgram rest with
    | [], ls => ls
    | w :: ws, some ls => (readProgWords (w :: ws)).map (fun l => l :: ls)
    | _ :: _, none => none

/-- The arrivals of a list of command lines, in order; refused if one line is. -/
def lineEvents : List AsmLine → Option (List PortEvent)
  | [] => some []
  | l :: ls =>
    match assembleWord l, lineEvents ls with
    | some w, some es => some (.command w :: es)
    | _, _ => none

/-- The arrivals of a call. -/
def callEvents (c : ApiCall) : Option (List PortEvent) :=
  (lineEvents (expandCall c)).map (fun es => if c = .init then .rst :: es else es)

/-- Append one program line to what is to arrive, or fix the peer (R90). -/
def placeLine (l : ProgLine) (s : State) : Option State :=
  match l with
  | .line a => (lineEvents [a]).map (fun es => { s with input := s.input ++ es })
  | .call c => (callEvents c).map (fun es => { s with input := s.input ++ es })
  | .ticks k => some { s with input := s.input ++ List.replicate k .tick }
  | .peer ds => some { s with peerDraws := ds, peerRest := some true }

/-- Place a whole program in front of the block. -/
def placeProgram : List ProgLine → State → Option State
  | [], s => some s
  | l :: ls, s =>
    match placeLine l s with
    | some s' => placeProgram ls s'
    | none => none

end Sys2Proof.Machine
end

