-- ==== Sys2Proof/Safety.lean ====
section
/-! DEFINITION. What a safe run is. The invariants 42_protocol_states.md gives in R170 to R176, each as a predicate on one
state, the facts the rules keep besides (queue capacities, the retry bound, the window of the extra wait), the invariant
`Inv` that joins them, and the states a block can reach from reset under every parameter, every order of arrivals and
every peer. A step is safe when it raises no model fault (60_exceptions.md R182). -/

namespace Sys2Proof.Machine

/-- R22: `protocolState` holds one of the ten codes. -/
abbrev CodeLegal (s : State) : Prop := s.protocolState.toNat < 10

/-- R170: a state is pending if and only if an acknowledge slot is in progress. -/
abbrev PendingLifetime (s : State) : Prop :=
  s.pendingState ≠ none ↔
    (inState .waitForAcknowledge s ∨ inState .sendAcknowledge s ∨ inState .sendNoAcknowledge s)

/-- Which state is pending in which slot (the writes of R143, R145 and R162). -/
abbrev PendingTarget (s : State) : Prop :=
  (inState .waitForAcknowledge s →
      s.pendingState = some .sendData ∨ s.pendingState = some .receiveData ∨ s.pendingState = some .stop)
    ∧ (inState .sendAcknowledge s → s.pendingState = some .receiveData)
    ∧ (inState .sendNoAcknowledge s → s.pendingState = some .stop)

/-- R171, and where else a tick can be consumed (its derivation): after START in SendAddress, or in Stop. -/
abbrev StartWindow (s : State) : Prop :=
  (inState .start s → (s.subPhase = 2#2 ∨ s.subPhase = 3#2) ∧ s.extraWait = 0#16)
    ∧ (s.extraWait ≠ 0#16 →
        (inState .sendAddress s ∧ s.subPhase = 0#2) ∨ (inState .stop s ∧ s.subPhase = 2#2))

/-- R172. -/
abbrev BitIndexBounds (s : State) : Prop :=
  (s.bitIndex ≠ 0#3 → inState .sendAddress s ∨ inState .sendData s ∨ inState .receiveData s)
    ∧ (inState .sendAddress s → s.bitIndex.toNat ≤ 6)

/-- R173. -/
abbrev PauseWindow (s : State) : Prop :=
  s.waitFlag →
    (s.subPhase = 2#2 ∨ s.subPhase = 3#2)
      ∧ (inState .waitForAcknowledge s ∨ inState .receiveData s ∨ inState .stop s)

/-- R174 (a): SendData at bit 0 has a byte to send. -/
abbrev OutboundGuard (s : State) : Prop :=
  inState .sendData s → s.bitIndex = 0#3 → s.outQ ≠ [] ∨ s.resend

/-- R32: a byte waits to be driven again only in SendData at bit 0. -/
abbrev ResendLifetime (s : State) : Prop :=
  s.resend → inState .sendData s ∧ s.bitIndex = 0#3

/-- R174 (b): a read in progress has a byte left to count. -/
abbrev InboundGuard (s : State) : Prop :=
  (inState .receiveData s ∨ inState .sendAcknowledge s
      ∨ (inState .waitForAcknowledge s ∧ s.pendingState = some .receiveData)) →
    1 ≤ s.pendingReceive.toNat

/-- The derivation of R174: work stays pending from initiation to the direction bit, and SendData is pending only with a
byte queued. -/
abbrev WorkKept (s : State) : Prop :=
  ((inState .start s ∨ inState .sendAddress s ∨ inState .sendReadWriteBit s) → workPending s)
    ∧ ((inState .waitForAcknowledge s ∧ s.pendingState = some .sendData) → s.outQ ≠ [])

/-- R175: the pin levels. -/
abbrev PinLevels (s : State) : Prop :=
  ((inState .idle s ∨ inState .start s) →
      s.sclDir ∧ s.sclLvl ∧ s.sdaDir ∧ s.sdaLvl)
    ∧ ((¬ inState .idle s ∧ ¬ inState .start s) →
        (s.subPhase = 0#2 → s.sclLvl) ∧ ((s.subPhase = 1#2 ∨ s.subPhase = 2#2) → ¬ s.sclLvl))

/-- R37 and the clock rules R122, R123: SCL is always driven, and it is high at sub-phase 3. -/
abbrev ClockDriven (s : State) : Prop := s.sclDir ∧ (s.subPhase = 3#2 → s.sclLvl)

/-- R176: SDA is released wherever the next tick samples it. -/
abbrev SampleReleased (s : State) : Prop :=
  (s.subPhase = 3#2 ∧ ¬ s.waitFlag ∧ s.extraWait = 0#16
      ∧ (inState .waitForAcknowledge s ∨ inState .receiveData s)) → ¬ s.sdaDir

/-- The derivation of R176: released from sub-phase 1 of the slot on, and through all the bits of a received byte. -/
abbrev ReleasedEarly (s : State) : Prop :=
  ((inState .waitForAcknowledge s ∨ inState .receiveData s) → s.subPhase = 2#2 → ¬ s.waitFlag → ¬ s.sdaDir)
    ∧ (inState .receiveData s → s.bitIndex ≠ 0#3 → ¬ s.sdaDir)

/-- R149: SDA is driven low before the STOP edge. -/
abbrev StopPrepared (s : State) : Prop :=
  inState .stop s → ¬ s.waitFlag → (s.subPhase = 2#2 ∨ s.subPhase = 3#2) → s.sdaDir ∧ ¬ s.sdaLvl

/-- R60, R61: the queues keep to their capacities, which are in the range of R7. -/
abbrev WithinCapacity (s : State) : Prop :=
  s.params.wf ∧ s.outQ.length ≤ s.params.outqCap ∧ s.inQ.length ≤ s.params.inqCap

/-- R34: the retry count stays below a limit in force, and is not counted without one. -/
abbrev RetryBounded (s : State) : Prop :=
  if s.params.retryLimit = 0 then s.retryCount = 0#16 else s.retryCount.toNat < s.params.retryLimit

/-- The invariant every step keeps. -/
structure Inv (s : State) : Prop where
  code : CodeLegal s
  lifetime : PendingLifetime s
  target : PendingTarget s
  start : StartWindow s
  index : BitIndexBounds s
  pause : PauseWindow s
  outbound : OutboundGuard s
  resend : ResendLifetime s
  inbound : InboundGuard s
  work : WorkKept s
  pins : PinLevels s
  clock : ClockDriven s
  sample : SampleReleased s
  released : ReleasedEarly s
  stop : StopPrepared s
  capacity : WithinCapacity s
  retry : RetryBounded s

/-- A block just out of reset (R200) with parameters `p`, the arrivals `es` to come and the peer as given. -/
def boot (p : Params) (es : List PortEvent) (ds : List Bool) (rest : Option Bool) (n : Nat) : State :=
  { State.reset with params := p, input := es, peerDraws := ds, peerRest := rest, freeCount := n }

/-- The states reachable from reset, under every legal parameter, every list of arrivals and every peer. -/
inductive Reachable : State → Prop where
  | boot (p : Params) (es : List PortEvent) (ds : List Bool) (rest : Option Bool) (n : Nat) (h : p.wf) :
      Reachable (boot p es ds rest n)
  | step (s t : State) (h : Reachable s) (hs : step s = .next t) : Reachable t

/-- `f` done `n` times, as long as each time answers a next state. -/
def repeatStep (f : State → Host.Outcome State Fault Refusal) : Nat → State → Host.Outcome State Fault Refusal
  | 0, s => .next s
  | n + 1, s =>
    match f s with
    | .next t => repeatStep f n t
    | .fault x => .fault x
    | .refused r => .refused r

/-- `n` ticks with no host step between them, from the state as it stands (the directive TICKS of R90). -/
abbrev runTicks (n : Nat) (s : State) : Host.Outcome State Fault Refusal := repeatStep (arrive .tick) n s

/-- `n` steps of the machine, whatever arrives. -/
abbrev runSteps (n : Nat) (s : State) : Host.Outcome State Fault Refusal := repeatStep step n s

/-- A safe step: no model fault and no refusal. -/
def SafeStep (s : State) : Prop := ∃ t, step s = .next t

end Sys2Proof.Machine
end

