-- ==== Sys2Proof/Certificates/Slice0/Obligations.lean ====
section
/-! DEFINITION. The statements for the provers. Each says in its docstring which rule of spec/ it formalises. A statement
about an instruction gives the whole next state as the state before with the fields the rule writes, so it is at once the
instruction's result, its frame (every field not named is unchanged) and its completion. -/

open Sys2Proof Sys2Proof.Machine

/-! ### Encodings -/

/-- Words written out by hand from R81, the examples of R100 to R108 and the key patterns of R87, one or more for every
family of the table. -/
def Obligations.SpecWordsDecode : Prop :=
  decode (.cmd 0x0000#16) = .nop ∧ decode (.cmd 0x1050#16) = .setaddr 0x50#7
    ∧ decode (.cmd 0x20A5#16) = .write 0xA5#8 ∧ decode (.cmd 0x3002#16) = .read 2#12
    ∧ decode (.cmd 0x5001#16) = .rdreg 1#4 ∧ decode (.cmd 0x6001#16) = .setcfg true false false
    ∧ decode (.cmd 0x7004#16) = .clrsts 4#4 ∧ decode (.cmd 0x1080#16) = .illegal 0x1080#16
    ∧ decode (.cmd 0x8000#16) = .reserved 0#15
    ∧ decode (.key 0b10001000#8) = .tickConsume false 2#4 0#2
    ∧ decode (.key 0b01010011#8) = .tickP3Pause 4#4
    ∧ decode (.key 0b00110001#8) = .tickReserved1215 false 0#2 1#2
    ∧ decode (.key 0b00010101#8) = .sdataP1 false ∧ decode (.key 0b00011011#8) = .rdataP3

/-- R80 to R82 and R87: no operand bit of a well-formed instruction is lost by its encoding. -/
def Obligations.EncodeThenDecode : Prop :=
  ∀ i : Instr, i.wf = true → decode (encode i) = i

/-- R81, R82 and R87: every command word and every key stands for exactly one well-formed instruction, and no bit of it
is dropped. -/
def Obligations.DecodeThenEncode : Prop :=
  ∀ c : Code, encode (decode c) = c ∧ (decode c).wf = true

/-- R87: the key has the fixed bits of the row it selects, and every other tick row whose fixed bits it has stands later
in the order of the priorities. -/
def Obligations.FirstMatchingRowSelects : Prop :=
  ∀ k : TickKey, isCommand (decodeKey k) = false ∧ fitsRow (decodeKey k) (.key k) = true ∧
    ∀ i : Instr, isCommand i = false → fitsRow i (.key k) = true →
      rowPriority (decodeKey k) < rowPriority i ∨ tableMatchMask i = tableMatchMask (decodeKey k)

/-- R82 and R108: a word with OP 0x8 to 0xF, or with a must-be-0 bit of its opcode set, returns ok = 0 and data = 0x0000
and changes no state, no other word is illegal, and so do the two rows themselves at every operand. -/
def Obligations.IllegalWordsRefused : Prop :=
  (∀ w : CmdWord,
    ((8 ≤ (opField w).toNat ∨ w &&& mustBeZero (opField w) ≠ 0#16) →
      ∀ s : State, exec (decodeCommand w) s = .next { s with rsp := some ⟨false, 0x0000#16⟩ })
    ∧ (¬ (8 ≤ (opField w).toNat ∨ w &&& mustBeZero (opField w) ≠ 0#16) →
      (∀ r, decodeCommand w ≠ .reserved r) ∧ ∀ v, decodeCommand w ≠ .illegal v))
  ∧ (∀ (r : BitVec 15) (s : State), exec (.reserved r) s = .next { s with rsp := some ⟨false, 0x0000#16⟩ })
  ∧ ∀ (w : CmdWord) (s : State), exec (.illegal w) s = .next { s with rsp := some ⟨false, 0x0000#16⟩ }

/-- R90: the word each line assembles to (R81), an operand out of range refused and never truncated; and that word decodes
to the line's instruction. Which keyword lists are lines is the model's choice (log entry 12), so the last clause is about
lists with no keyword twice and no two keywords for one bit. -/
def Obligations.AssemblerRefusesRatherThanTruncates : Prop :=
  (∀ (l : AsmLine) (w : CmdWord), assembleWord l = some w → some (decodeCommand w) = assemble l)
    ∧ assembleWord .nop = some 0x0000#16 ∧ assembleWord .poprx = some 0x4000#16
    ∧ assembleWord .clrstsAll = some 0x700F#16
    ∧ (∀ a, assembleWord (.setaddr a) = if a ≤ 0x7F then some (BitVec.ofNat 16 (0x1000 + a)) else none)
    ∧ (∀ b, assembleWord (.write b) = if b ≤ 0xFF then some (BitVec.ofNat 16 (0x2000 + b)) else none)
    ∧ (∀ n, assembleWord (.read n) = if n ≤ 0xFFF then some (BitVec.ofNat 16 (0x3000 + n)) else none)
    ∧ (∀ r, assembleWord (.rdreg r) = if r ≤ 15 then some (BitVec.ofNat 16 (0x5000 + r)) else none)
    ∧ (∀ k, assembleWord (.setcfg k) = if k < 8 then some (BitVec.ofNat 16 (0x6000 + k)) else none)
    ∧ (∀ m, assembleWord (.clrsts m) = if m < 16 then some (BitVec.ofNat 16 (0x7000 + m)) else none)
    ∧ (∀ r : RegName, assembleWord (.rdregNamed r) = some
        (match r with
        | .status => 0x5000#16 | .config => 0x5001#16 | .addr => 0x5002#16 | .txlen => 0x5003#16
        | .rxlen => 0x5004#16 | .pendrx => 0x5005#16 | .ctx => 0x5006#16 | .extrawait => 0x5007#16))
    ∧ ∀ ks : List CfgWord, ks.Nodup → ¬(.retry ∈ ks ∧ .abort ∈ ks) → ¬(.reject ∈ ks ∧ .overwrite ∈ ks) →
        assembleWord (.setcfgWords ks) = some (BitVec.ofNat 16
          (0x6000 + (if .retry ∈ ks then 1 else 0) + (if .ignack ∈ ks then 2 else 0)
            + (if .overwrite ∈ ks then 4 else 0)))

/-! ### The step -/

/-- R70, R80, R87: a command word at the port, or a tick read as the key of the state it meets, is decoded and executed
as one step, and the arrival is taken off the list. -/
def Obligations.StepRunsDecodedInstruction : Prop :=
  (∀ (s : State) (w : CmdWord) (es : List PortEvent), s.input = .command w :: es →
    step s = exec (decodeCommand w) { s with input := es })
  ∧ ∀ (s : State) (es : List PortEvent), s.input = .tick :: es →
    step s = exec (decodeKey (BitVec.ofBool (decide (s.extraWait ≠ 0#16)) ++ BitVec.ofBool s.waitFlag
      ++ s.protocolState ++ s.subPhase)) { s with input := es }

/-- R70 and R131. The model's choice (log entry 4): with no arrival listed, the host steps that the free value gives come up
in their order and then a tick. From every state a tick comes up after finitely many steps, all of which complete: the weak
fairness of R131. -/
def Obligations.StepTakesFreeArrival : Prop :=
  (∀ s : State, s.input = [] →
    step s =
      match Config.hostSteps s.freeCount with
      | [] => arrive .tick { s with freeCount := s.freeCount + 1 }
      | e :: es => arrive e { s with input := es ++ [.tick], freeCount := s.freeCount + 1 })
  ∧ ∀ s : State, ∃ (n : Nat) (t : State), runSteps n s = .next t ∧ (takeEvent t).1 = .tick

/-- R200: on `rst` every element of R20 takes its reset value, whatever the state, and the step completes. The response
port, the parameters and the outside's fields are the model's (log entries 2, 4, 5, 6, 7). -/
def Obligations.ResetInputRestoresResetValues : Prop :=
  ∀ (s : State) (es : List PortEvent), s.input = .rst :: es →
    step s = .next
      { protocolState := 0#4, subPhase := 0#2, bitIndex := 0#3, shiftByte := 0#8, targetAddress := 0#7,
        txAddress := 0#7, pendingReceive := 0#16, outQ := [], inQ := [], waitFlag := false, extraWait := 0#16,
        pendingState := none, resend := false, ackKind := false, retryCount := 0#16, stsTxOvf := false,
        stsRxOvf := false, stsNack := false, stsBusTimeout := false, cfgAckPolicy := false, cfgIgnoreAck := false,
        cfgOvfPolicy := true, sclDir := true, sclLvl := true, sdaDir := true, sdaLvl := true, params := s.params,
        rsp := none, input := es, peerDraws := s.peerDraws, peerRest := s.peerRest, freeCount := s.freeCount }

/-- R200 and the reset column of R20, for the state the machine starts in. -/
def Obligations.ResetStateValues : Prop :=
  let s := State.reset
  s.protocolState = ProtoState.idle.code ∧ s.subPhase = 0#2 ∧ s.bitIndex = 0#3 ∧ s.shiftByte = 0x00#8
    ∧ s.targetAddress = 0x00#7 ∧ s.txAddress = 0x00#7 ∧ s.pendingReceive = 0#16 ∧ s.outQ = [] ∧ s.inQ = []
    ∧ s.waitFlag = false ∧ s.extraWait = 0#16 ∧ s.pendingState = none ∧ s.resend = false ∧ s.ackKind = false
    ∧ s.retryCount = 0#16 ∧ s.stsTxOvf = false ∧ s.stsRxOvf = false ∧ s.stsNack = false
    ∧ s.stsBusTimeout = false ∧ configWord s = 0x0004#16
    ∧ s.sclDir = true ∧ s.sclLvl = true ∧ s.sdaDir = true ∧ s.sdaLvl = true

/-- R120 to R126: a tick is the extra-wait gate, then the action of the sub-phase, as `Tick()` composes them; this holds
in every state whose code is one of the ten. -/
def Obligations.TickComposesSequencer : Prop :=
  ∀ (s : State) (p : ProtoState), s.protocolState = p.code →
    arrive .tick s =
      if s.extraWait ≠ 0#16 then .next { s with extraWait := s.extraWait - 1#16 }
      else if s.subPhase = 0#2 then exec (.tickP0 s.waitFlag s.protocolState) s
      else if s.subPhase = 1#2 then exec (phase1Row s.waitFlag p) s
      else if s.subPhase = 2#2 then exec (.tickP2 s.waitFlag s.protocolState) s
      else if s.waitFlag then exec (.tickP3Pause s.protocolState) s
      else exec (phase3Row p) s

/-- R120: while `extraWait` is non-zero a tick only decrements it, whatever the rest of the state (also with a reserved
state code, R87 priority 1); the same for the row itself, whatever its key bits. With `extraWait` 0, where no key selects
the row, it changes nothing (the model's choice, log entry 10). -/
def Obligations.ConsumedTickOnlyDecrements : Prop :=
  ∀ s : State,
    (s.extraWait ≠ 0#16 →
      arrive .tick s = .next { s with extraWait := BitVec.ofNat 16 (s.extraWait.toNat - 1) }
      ∧ ∀ (wf : Bool) (st : StateCode) (ph : Phase),
        exec (.tickConsume wf st ph) s = .next { s with extraWait := BitVec.ofNat 16 (s.extraWait.toNat - 1) })
    ∧ (s.extraWait = 0#16 → ∀ (wf : Bool) (st : StateCode) (ph : Phase), exec (.tickConsume wf st ph) s = .next s)

/-- R120 (corner case): an armed value of N consumes exactly N ticks. -/
def Obligations.ArmedWaitConsumesExactly : Prop :=
  ∀ s : State, ∀ n : Nat, n ≤ s.extraWait.toNat →
    runTicks n s = .next { s with extraWait := BitVec.ofNat 16 (s.extraWait.toNat - n) }

/-- R121: every tick that is not consumed and completes advances `subPhase` by one modulo 4, and (R23) no command does
anything to it. -/
def Obligations.SubPhaseAdvancesByOne : Prop :=
  (∀ s t : State, s.extraWait = 0#16 → arrive .tick s = .next t → t.subPhase.toNat = (s.subPhase.toNat + 1) % 4)
    ∧ ∀ (s t : State) (w : CmdWord), arrive (.command w) s = .next t → t.subPhase = s.subPhase

/-! ### Host commands -/

/-- R100, R101. -/
def Obligations.NopAndSetaddrAnswerOk : Prop :=
  ∀ s : State, exec .nop s = .next { s with rsp := some ⟨true, 0x0000#16⟩ }
    ∧ ∀ a : Addr, exec (.setaddr a) s = .next { s with targetAddress := a, rsp := some ⟨true, 0x0000#16⟩ }

/-- R102, R62: accepted while there is room; with the queue full the overflow is recorded, and the policy says whether
the oldest unread byte gives way or the new one is refused. -/
def Obligations.WriteAppendsOrOverflows : Prop :=
  ∀ (b : Byte) (s : State), exec (.write b) s = .next
    (if s.outQ.length < s.params.outqCap then { s with outQ := s.outQ ++ [b], rsp := some ⟨true, 0x0000#16⟩ }
     else if s.cfgOvfPolicy = true then
       { s with stsTxOvf := true, outQ := s.outQ.drop 1 ++ [b], rsp := some ⟨true, 0x0000#16⟩ }
     else { s with stsTxOvf := true, rsp := some ⟨false, 0x0000#16⟩ })

/-- R103: the count grows by the operand, and a sum past 0xFFFF is refused with no state change. -/
def Obligations.ReadAddsOrRefuses : Prop :=
  ∀ (n : BitVec 12) (s : State),
    (s.pendingReceive.toNat + n.toNat ≤ 0xFFFF →
      exec (.read n) s = .next
        { s with pendingReceive := BitVec.ofNat 16 (s.pendingReceive.toNat + n.toNat),
                 rsp := some ⟨true, 0x0000#16⟩ })
    ∧ (0xFFFF < s.pendingReceive.toNat + n.toNat →
      exec (.read n) s = .next { s with rsp := some ⟨false, 0x0000#16⟩ })

/-- R104: the oldest received byte with VALID set, or VALID = 0 from an empty queue. -/
def Obligations.PoprxTakesOldestByte : Prop :=
  (∀ s : State, s.inQ = [] → exec .poprx s = .next { s with rsp := some ⟨true, 0x0000#16⟩ })
    ∧ ∀ (s : State) (b : Byte) (q : List Byte), s.inQ = b :: q →
      exec .poprx s = .next { s with inQ := q, rsp := some ⟨true, BitVec.ofNat 16 (0x8000 + b.toNat)⟩ }

/-- R105, R41: RDREG 0 answers STATUS, field by field, and changes nothing else. -/
def Obligations.RdregStatusFields : Prop :=
  ∀ s : State, ∃ v : CmdWord, exec (.rdreg 0#4) s = .next { s with rsp := some ⟨true, v⟩ }
    ∧ v.extractLsb' 0 4 = s.protocolState ∧ v.extractLsb' 4 2 = s.subPhase ∧ v.getLsbD 6 = s.waitFlag
    ∧ (v.getLsbD 7 = true ↔ s.protocolState ≠ ProtoState.idle.code ∨ s.extraWait ≠ 0#16)
    ∧ v.getLsbD 8 = s.stsTxOvf ∧ v.getLsbD 9 = s.stsRxOvf ∧ v.getLsbD 10 = s.stsNack
    ∧ v.getLsbD 11 = s.stsBusTimeout ∧ v.extractLsb' 12 4 = 0#4

/-- R105, R42, R47: RDREG 1 answers CONFIG and RDREG 6 answers CTX, field by field. -/
def Obligations.RdregConfigAndCtxFields : Prop :=
  ∀ s : State,
    (∃ v : CmdWord, exec (.rdreg 1#4) s = .next { s with rsp := some ⟨true, v⟩ }
      ∧ v.getLsbD 0 = s.cfgAckPolicy ∧ v.getLsbD 1 = s.cfgIgnoreAck ∧ v.getLsbD 2 = s.cfgOvfPolicy
      ∧ v.extractLsb' 3 13 = 0#13)
    ∧ ∃ v : CmdWord, exec (.rdreg 6#4) s = .next { s with rsp := some ⟨true, v⟩ }
      ∧ v.extractLsb' 0 7 = s.txAddress ∧ v.getLsbD 7 = false ∧ v.extractLsb' 8 3 = s.bitIndex
      ∧ v.getLsbD 11 = s.resend ∧ v.getLsbD 12 = s.ackKind ∧ v.extractLsb' 13 3 = 0#3

/-- R105, R43 to R46, R48: the registers that hold one number each. The queue lengths are read modulo 2^16, and in full
whenever the queues keep to capacities in the range of R7. -/
def Obligations.RdregCounts : Prop :=
  ∀ s : State,
    (∃ v : CmdWord, exec (.rdreg 2#4) s = .next { s with rsp := some ⟨true, v⟩ }
      ∧ v.extractLsb' 0 7 = s.targetAddress ∧ v.extractLsb' 7 9 = 0#9)
    ∧ (∃ v : CmdWord, exec (.rdreg 3#4) s = .next { s with rsp := some ⟨true, v⟩ }
      ∧ v.toNat = s.outQ.length % 65536)
    ∧ (∃ v : CmdWord, exec (.rdreg 4#4) s = .next { s with rsp := some ⟨true, v⟩ }
      ∧ v.toNat = s.inQ.length % 65536)
    ∧ exec (.rdreg 5#4) s = .next { s with rsp := some ⟨true, s.pendingReceive⟩ }
    ∧ exec (.rdreg 7#4) s = .next { s with rsp := some ⟨true, s.extraWait⟩ }
    ∧ (WithinCapacity s → s.outQ.length % 65536 = s.outQ.length ∧ s.inQ.length % 65536 = s.inQ.length)

/-- R49, R105: register numbers 8 to 15 are refused with no state change. -/
def Obligations.RdregReservedNumbersRefused : Prop :=
  ∀ (r : BitVec 4) (s : State), 8 ≤ r.toNat →
    exec (.rdreg r) s = .next { s with rsp := some ⟨false, 0x0000#16⟩ }

/-- R106: the three configuration bits in Idle, also while the extra wait runs, and a refusal anywhere else. -/
def Obligations.SetcfgOnlyInIdle : Prop :=
  ∀ (a i o : Bool) (s : State),
    (s.protocolState = ProtoState.idle.code →
      exec (.setcfg a i o) s = .next
        { s with cfgAckPolicy := a, cfgIgnoreAck := i, cfgOvfPolicy := o, rsp := some ⟨true, 0x0000#16⟩ })
    ∧ (s.protocolState ≠ ProtoState.idle.code →
      exec (.setcfg a i o) s = .next { s with rsp := some ⟨false, 0x0000#16⟩ })

/-- R107, R89: each mask bit that is 1 clears its sticky bit, and each that is 0 leaves it. -/
def Obligations.ClrstsClearsSelected : Prop :=
  ∀ (m : BitVec 4) (s : State), exec (.clrsts m) s = .next
    { s with
      stsTxOvf := if m.getLsbD 0 then false else s.stsTxOvf
      stsRxOvf := if m.getLsbD 1 then false else s.stsRxOvf
      stsNack := if m.getLsbD 2 then false else s.stsNack
      stsBusTimeout := if m.getLsbD 3 then false else s.stsBusTimeout
      rsp := some ⟨true, 0x0000#16⟩ }

/-- 40_host_commands.md, opening paragraph ("no bus activity occurs synchronously"), R21 and R193 ("There is no
cancellation"): every command completes and answers, and what the host cannot write is unchanged: the control point, the
bit index, the shift byte, the latched address, the pauses, the pending state, the retry count and the pins. No command empties `outQ` or lowers `pendingReceive` (R160). -/
def Obligations.CommandsTouchNoBusState : Prop :=
  ∀ (i : Instr) (s : State), isCommand i = true →
    ∃ (t : State) (r : Response), exec i s = .next t ∧ t.rsp = some r ∧ (r.ok = false → r.data = 0x0000#16)
      ∧ t.protocolState = s.protocolState ∧ t.subPhase = s.subPhase ∧ t.bitIndex = s.bitIndex
      ∧ t.shiftByte = s.shiftByte ∧ t.txAddress = s.txAddress ∧ t.waitFlag = s.waitFlag
      ∧ t.extraWait = s.extraWait ∧ t.pendingState = s.pendingState ∧ t.resend = s.resend
      ∧ t.ackKind = s.ackKind ∧ t.retryCount = s.retryCount ∧ t.sclDir = s.sclDir ∧ t.sclLvl = s.sclLvl
      ∧ t.sdaDir = s.sdaDir ∧ t.sdaLvl = s.sdaLvl ∧ t.params = s.params ∧ t.input = s.input
      ∧ t.peerDraws = s.peerDraws ∧ t.peerRest = s.peerRest ∧ t.freeCount = s.freeCount
      ∧ (s.outQ ≠ [] → t.outQ ≠ []) ∧ s.pendingReceive.toNat ≤ t.pendingReceive.toNat

/-! ### The tick sequencer -/

/-- R88: a tick whose key has a state code from 10 to 15, the gate open, is the model fault ReservedState. -/
def Obligations.ReservedCodesFault : Prop :=
  (∀ (wf : Bool) (c : BitVec 1) (ph : Phase) (s : State),
      exec (.tickReserved1011 wf c ph) s = .fault .reservedState)
    ∧ (∀ (wf : Bool) (c : BitVec 2) (ph : Phase) (s : State),
      exec (.tickReserved1215 wf c ph) s = .fault .reservedState)
    ∧ ∀ s : State, 10 ≤ s.protocolState.toNat → s.extraWait = 0#16 → arrive .tick s = .fault .reservedState

/-- R122, R123: the clock edges of sub-phases 0 and 2, skipped in Idle. -/
def Obligations.ClockEdgesSkippedInIdle : Prop :=
  ∀ (wf : Bool) (st : StateCode) (s : State),
    (s.protocolState = ProtoState.idle.code →
      exec (.tickP0 wf st) s = .next { s with subPhase := s.subPhase + 1#2 }
      ∧ exec (.tickP2 wf st) s = .next { s with subPhase := s.subPhase + 1#2 })
    ∧ (s.protocolState ≠ ProtoState.idle.code →
      exec (.tickP0 wf st) s = .next { s with sclDir := true, sclLvl := false, subPhase := s.subPhase + 1#2 }
      ∧ exec (.tickP2 wf st) s = .next { s with sclDir := true, sclLvl := true, subPhase := s.subPhase + 1#2 })

/-! ### Sub-phase 1 -/

/-- R140: with work pending the state becomes Start and the address is latched; with none, nothing but the sub-phase. -/
def Obligations.IdleStartsWhenWorkPending : Prop :=
  ∀ (wf : Bool) (s : State),
    ((s.outQ ≠ [] ∨ 0 < s.pendingReceive.toNat) →
      exec (.idleP1 wf) s = .next
        { s with protocolState := ProtoState.start.code, txAddress := s.targetAddress,
                 subPhase := s.subPhase + 1#2 })
    ∧ (s.outQ = [] → s.pendingReceive = 0#16 →
      exec (.idleP1 wf) s = .next { s with subPhase := s.subPhase + 1#2 })

/-- R141 and R164: the rows with no action change nothing but the sub-phase (R121). -/
def Obligations.NoActionRowsOnlyAdvance : Prop :=
  ∀ (wf : Bool) (s : State), ∀ i : Instr,
    (i = .startP1 wf ∨ i = .idleP3 ∨ i = .saddrP3 ∨ i = .srwP3 ∨ i = .sdataP3 ∨ i = .sackP3 ∨ i = .snackP3) →
      exec i s = .next { s with subPhase := s.subPhase + 1#2 }

/-- R142: the address goes out most significant bit first, and after the seventh bit the direction bit is next. -/
def Obligations.AddressBitsMsbFirst : Prop :=
  ∀ (wf : Bool) (s : State),
    (s.bitIndex.toNat < 6 →
      exec (.saddrP1 wf) s = .next
        { s with sdaDir := true, sdaLvl := s.txAddress.getLsbD (6 - s.bitIndex.toNat),
                 bitIndex := s.bitIndex + 1#3, subPhase := s.subPhase + 1#2 })
    ∧ (s.bitIndex = 6#3 →
      exec (.saddrP1 wf) s = .next
        { s with sdaDir := true, sdaLvl := s.txAddress.getLsbD 0, bitIndex := 0#3,
                 protocolState := ProtoState.sendReadWriteBit.code, subPhase := s.subPhase + 1#2 })

/-- The model's choice at `bitIndex` 7, which R142 calls never reached (log entry 9): the level and the next index are
free values, SDA is driven, and everything else is as R142 has it. -/
def Obligations.AddressBitSevenIsFree : Prop :=
  ∀ (wf : Bool) (s : State), s.bitIndex = 7#3 →
    ∃ (v : Bool) (j : BitIndex),
      exec (.saddrP1 wf) s = .next
        { s with sdaDir := true, sdaLvl := v, bitIndex := j, freeCount := s.freeCount + 1,
                 subPhase := s.subPhase + 1#2 }

/-- R143: write when `outQ` is non-empty, else read, and the address acknowledge slot with its pause. -/
def Obligations.DirectionBitOpensAddressSlot : Prop :=
  ∀ (wf : Bool) (s : State),
    (s.outQ ≠ [] →
      exec (.srwP1 wf) s = .next
        { s with sdaDir := true, sdaLvl := false, pendingState := some .sendData, ackKind := false,
                 waitFlag := true, protocolState := ProtoState.waitForAcknowledge.code,
                 subPhase := s.subPhase + 1#2 })
    ∧ (s.outQ = [] →
      exec (.srwP1 wf) s = .next
        { s with sdaDir := true, sdaLvl := true, pendingState := some .receiveData, ackKind := false,
                 waitFlag := true, protocolState := ProtoState.waitForAcknowledge.code,
                 subPhase := s.subPhase + 1#2 })

/-- R144, R146: the acknowledge slot releases SDA, which keeps its level bit; a received byte does so at bit 0 with the
accumulator zeroed, and at the other bits nothing happens. -/
def Obligations.SdaReleasedForPeer : Prop :=
  ∀ (wf : Bool) (s : State),
    exec (.wackP1 wf) s = .next { s with sdaDir := false, subPhase := s.subPhase + 1#2 }
    ∧ (s.bitIndex = 0#3 →
      exec (.rdataP1 wf) s = .next { s with sdaDir := false, shiftByte := 0x00#8, subPhase := s.subPhase + 1#2 })
    ∧ (s.bitIndex ≠ 0#3 → exec (.rdataP1 wf) s = .next { s with subPhase := s.subPhase + 1#2 })

/-- R145. At bit 0 a resend drives the byte still held and leaves `outQ`; otherwise the oldest byte is popped; with none
to pop it is the model fault. At bits 1 to 6 the next bit of the held byte goes out, and at the eighth the data
acknowledge slot opens, to resume at SendData if more bytes are queued and at Stop if not. -/
def Obligations.SendDataShiftsMsbFirst : Prop :=
  ∀ (wf : Bool) (s : State),
    (s.bitIndex = 0#3 → s.resend = true →
      exec (.sdataP1 wf) s = .next
        { s with resend := false, sdaDir := true, sdaLvl := s.shiftByte.getLsbD 7, bitIndex := 1#3,
                 subPhase := s.subPhase + 1#2 })
    ∧ (s.bitIndex = 0#3 → s.resend = false → ∀ (b : Byte) (q : List Byte), s.outQ = b :: q →
      exec (.sdataP1 wf) s = .next
        { s with shiftByte := b, outQ := q, sdaDir := true, sdaLvl := b.getLsbD 7, bitIndex := 1#3,
                 subPhase := s.subPhase + 1#2 })
    ∧ (s.bitIndex = 0#3 → s.resend = false → s.outQ = [] → exec (.sdataP1 wf) s = .fault .outboundUnderflow)
    ∧ (1 ≤ s.bitIndex.toNat → s.bitIndex.toNat ≤ 6 →
      exec (.sdataP1 wf) s = .next
        { s with sdaDir := true, sdaLvl := s.shiftByte.getLsbD (7 - s.bitIndex.toNat),
                 bitIndex := s.bitIndex + 1#3, subPhase := s.subPhase + 1#2 })
    ∧ (s.bitIndex = 7#3 →
      exec (.sdataP1 wf) s = .next
        { s with sdaDir := true, sdaLvl := s.shiftByte.getLsbD 0, bitIndex := 0#3, waitFlag := true,
                 ackKind := true,
                 pendingState := if 0 < s.outQ.length then some .sendData else some .stop,
                 protocolState := ProtoState.waitForAcknowledge.code, subPhase := s.subPhase + 1#2 })

/-- R147, R148: the master ACK resumes the pending state, and with none pending it is the model fault; the master NACK
goes to Stop. -/
def Obligations.MasterAckAndNack : Prop :=
  ∀ (wf : Bool) (s : State),
    (∀ p : ProtoState, s.pendingState = some p →
      exec (.sackP1 wf) s = .next
        { s with sdaDir := true, sdaLvl := false, waitFlag := true, protocolState := p.code,
                 pendingState := none, subPhase := s.subPhase + 1#2 })
    ∧ (s.pendingState = none → exec (.sackP1 wf) s = .fault .pendingStateUndefined)
    ∧ exec (.snackP1 wf) s = .next
        { s with sdaDir := true, sdaLvl := true, waitFlag := true, protocolState := ProtoState.stop.code,
                 pendingState := none, subPhase := s.subPhase + 1#2 }

/-- R149: SDA low, and the bus-free pause armed with STOP_WAIT. R124: at sub-phase 3 the one-phase pause is consumed and
nothing is sampled. -/
def Obligations.StopArmsWaitAndPauseIsConsumed : Prop :=
  (∀ (wf : Bool) (s : State), exec (.stopP1 wf) s = .next
    { s with sdaDir := true, sdaLvl := false, extraWait := s.params.stopWait, subPhase := s.subPhase + 1#2 })
  ∧ ∀ (st : StateCode) (s : State), exec (.tickP3Pause st) s =
    .next { s with waitFlag := false, subPhase := s.subPhase + 1#2 }

/-! ### Sub-phase 3 -/

/-- R160, R163: the START edge with START_WAIT armed while work is pending, else Idle without an edge; the STOP edge, and
Idle, with no count written. -/
def Obligations.StartAndStopEdges : Prop :=
  ∀ s : State,
    ((s.outQ ≠ [] ∨ 0 < s.pendingReceive.toNat) →
      exec .startP3 s = .next
        { s with sdaDir := true, sdaLvl := false, extraWait := s.params.startWait,
                 protocolState := ProtoState.sendAddress.code, subPhase := s.subPhase + 1#2 })
    ∧ (s.outQ = [] → s.pendingReceive = 0#16 →
      exec .startP3 s = .next { s with protocolState := ProtoState.idle.code, subPhase := s.subPhase + 1#2 })
    ∧ exec .stopP3 s = .next
        { s with sdaDir := true, sdaLvl := true, protocolState := ProtoState.idle.code,
                 subPhase := s.subPhase + 1#2 }

/-- R130: a sample while the block drives SDA is the model fault; else it reads the peer. Which level that is the spec
leaves free: the model takes the listed draws first, then the standing level, then a free value (log entry 5), and a draw
changes nothing else. -/
def Obligations.SampleReadsOneDraw : Prop :=
  ∀ (s : State) (k : Bool → State → Host.Outcome State Fault Refusal),
    (s.sdaDir = true → sampleSDA s k = .fault .readWhileDriving)
    ∧ (s.sdaDir = false → ∀ (d : Bool) (ds : List Bool), s.peerDraws = d :: ds →
      sampleSDA s k = k d { s with peerDraws := ds })
    ∧ (s.sdaDir = false → s.peerDraws = [] → ∀ d : Bool, s.peerRest = some d → sampleSDA s k = k d s)
    ∧ (s.sdaDir = false → s.peerDraws = [] → s.peerRest = none →
      sampleSDA s k = k (Config.peerLevel s.freeCount) { s with freeCount := s.freeCount + 1 })

/-- R161 with R166, for every draw `d` of the peer (`u` is the state after the draw). Acknowledged, by the line low or by
the override: the pending state is resumed. Not acknowledged: NACK is recorded; under Abort, and under Retry at the limit,
the transaction is discarded and the state is Stop; under Retry below the limit a data byte is sent again and an address
ends in Stop with the work kept. The two checks come first, in their order. The model's readings where R161 leaves the count
open: the limit is tested on the exact sum (DEDUCED, log entry 11), and a sum that 16 bits do not hold, below a larger
limit, is a free value (log entry 3). -/
def Obligations.AckSlotOutcome : Prop :=
  ∀ (s u : State) (d : Bool), drawPeer s = (d, u) →
    (s.pendingState = none → exec .wackP3 s = .fault .pendingStateUndefined)
    ∧ ∀ p : ProtoState, s.pendingState = some p →
      (s.sdaDir = true → exec .wackP3 s = .fault .readWhileDriving)
      ∧ (s.sdaDir = false → (d = false ∨ s.cfgIgnoreAck = true) →
        exec .wackP3 s = .next
          { u with protocolState := p.code, pendingState := none,
                   retryCount := if s.params.retryLimit = 0 then s.retryCount else 0#16,
                   subPhase := s.subPhase + 1#2 })
      ∧ (s.sdaDir = false → d = true → s.cfgIgnoreAck = false → s.cfgAckPolicy = false →
        exec .wackP3 s = .next
          { u with stsNack := true,
                   retryCount := if s.params.retryLimit = 0 then s.retryCount else 0#16,
                   outQ := [], pendingReceive := 0#16, resend := false, pendingState := none,
                   protocolState := ProtoState.stop.code, subPhase := s.subPhase + 1#2 })
      ∧ (s.sdaDir = false → d = true → s.cfgIgnoreAck = false → s.cfgAckPolicy = true →
        (s.params.retryLimit = 0 ∨ (s.retryCount ≠ 0xFFFF#16 ∧ s.retryCount.toNat + 1 < s.params.retryLimit)) →
        exec .wackP3 s = .next
          { u with stsNack := true,
                   retryCount := if s.params.retryLimit = 0 then s.retryCount else s.retryCount + 1#16,
                   pendingState := none, resend := if s.ackKind then true else s.resend,
                   protocolState := if s.ackKind then ProtoState.sendData.code else ProtoState.stop.code,
                   subPhase := s.subPhase + 1#2 })
      ∧ (s.sdaDir = false → d = true → s.cfgIgnoreAck = false → s.cfgAckPolicy = true →
        s.retryCount = 0xFFFF#16 → 0x10000 < s.params.retryLimit →
        ∃ v : Count, exec .wackP3 s = .next
          { u with stsNack := true, retryCount := v, freeCount := u.freeCount + 1,
                   pendingState := none, resend := if s.ackKind then true else s.resend,
                   protocolState := if s.ackKind then ProtoState.sendData.code else ProtoState.stop.code,
                   subPhase := s.subPhase + 1#2 })
      ∧ (s.sdaDir = false → d = true → s.cfgIgnoreAck = false → s.cfgAckPolicy = true →
        s.params.retryLimit ≠ 0 → s.params.retryLimit ≤ s.retryCount.toNat + 1 →
        exec .wackP3 s = .next
          { u with stsNack := true, stsBusTimeout := true, retryCount := 0#16,
                   outQ := [], pendingReceive := 0#16, resend := false, pendingState := none,
                   protocolState := ProtoState.stop.code, subPhase := s.subPhase + 1#2 })

/-- R162 with R63, for every draw `d` of the peer (`u` is the state after the draw). At bits 0 to 6 the sampled bit goes
into the accumulator, most significant first, and the other bits stay. At bit 7 the completed byte is appended (the oldest
giving way in a full queue, with RXOVF), counted, and answered with ACK if more remain and NACK if not. The two checks
come in their order. -/
def Obligations.ReceivedBitOutcome : Prop :=
  ∀ (s u : State) (d : Bool), drawPeer s = (d, u) →
    (s.sdaDir = true → exec .rdataP3 s = .fault .readWhileDriving)
    ∧ (s.sdaDir = false → s.bitIndex = 7#3 → s.pendingReceive = 0#16 → exec .rdataP3 s = .fault .receiveUnderflow)
    ∧ ∃ v : Byte, (∀ j : Nat, j < 8 → v.getLsbD j = if j = 7 - s.bitIndex.toNat then d else s.shiftByte.getLsbD j)
      ∧ (s.sdaDir = false → s.bitIndex.toNat < 7 →
        exec .rdataP3 s = .next
          { u with shiftByte := v, bitIndex := s.bitIndex + 1#3, subPhase := s.subPhase + 1#2 })
      ∧ (s.sdaDir = false → s.bitIndex = 7#3 → 0 < s.pendingReceive.toNat →
        exec .rdataP3 s = .next
          { u with shiftByte := v, bitIndex := 0#3,
                   stsRxOvf := if s.inQ.length = s.params.inqCap then true else s.stsRxOvf,
                   inQ := (if s.inQ.length = s.params.inqCap then s.inQ.drop 1 else s.inQ) ++ [v],
                   pendingReceive := BitVec.ofNat 16 (s.pendingReceive.toNat - 1),
                   protocolState :=
                     if 1 < s.pendingReceive.toNat then ProtoState.sendAcknowledge.code
                     else ProtoState.sendNoAcknowledge.code,
                   pendingState := if 1 < s.pendingReceive.toNat then some .receiveData else some .stop,
                   subPhase := s.subPhase + 1#2 })

/-! ### Whole-machine rules -/

/-- R132: over any one tick, SCL changes only at sub-phases 0 and 2 and SDA only at sub-phases 1 and 3, and at sub-phase 3
SDA changes only in Start and in Stop. -/
def Obligations.PinsWrittenInTheirPhases : Prop :=
  ∀ s t : State, arrive .tick s = .next t →
    (t.sclLvl ≠ s.sclLvl → s.subPhase = 0#2 ∨ s.subPhase = 2#2)
    ∧ ((t.sdaDir ≠ s.sdaDir ∨ t.sdaLvl ≠ s.sdaLvl) →
        s.subPhase = 1#2
          ∨ (s.subPhase = 3#2
              ∧ (s.protocolState = ProtoState.start.code ∨ s.protocolState = ProtoState.stop.code)))

/-- R133: over four consecutive ticks from sub-phase 0, none of them consumed and none in Idle, SCL goes from high to low
exactly once, at sub-phase 0, and from low to high exactly once, at sub-phase 2. -/
def Obligations.ClockCyclesOncePerBitPeriod : Prop :=
  ∀ s0 s1 s2 s3 s4 : State, Inv s0 → s0.subPhase = 0#2 →
    (∀ s : State, s = s0 ∨ s = s1 ∨ s = s2 ∨ s = s3 →
      s.extraWait = 0#16 ∧ s.protocolState ≠ ProtoState.idle.code) →
    arrive .tick s0 = .next s1 → arrive .tick s1 = .next s2 → arrive .tick s2 = .next s3 → arrive .tick s3 = .next s4 →
      s0.sclLvl = true ∧ s1.sclLvl = false ∧ s2.sclLvl = false ∧ s3.sclLvl = true ∧ s4.sclLvl = true

/-- R132, last clause, over every state that meets the invariant: SDA changes while SCL stays 1 only as the START edge
(high to low, out of Start) or the STOP edge (low to high, into Idle). -/
def Obligations.SdaEdgesUnderHighClockAreStartOrStop : Prop :=
  ∀ s t : State, Inv s → arrive .tick s = .next t → s.sclLvl = true → t.sclLvl = true →
    (t.sdaDir ≠ s.sdaDir ∨ t.sdaLvl ≠ s.sdaLvl) →
      s.sdaDir = true ∧ t.sdaDir = true
        ∧ ((s.protocolState = ProtoState.start.code ∧ t.protocolState = ProtoState.sendAddress.code
              ∧ s.sdaLvl = true ∧ t.sdaLvl = false)
          ∨ (s.protocolState = ProtoState.stop.code ∧ t.protocolState = ProtoState.idle.code
              ∧ s.sdaLvl = false ∧ t.sdaLvl = true))

/-- R165: outside reset `protocolState` changes only on a tick that is not consumed, and only as the summary table says:
each row with its state, its sub-phase, its condition and its next state, and what the rows of a failed acknowledge say of
the work. The limit is tested on the exact sum (DEDUCED, log entry 11). -/
def Obligations.TransitionsOnlyAsListed : Prop :=
  ∀ (s t : State) (e : PortEvent), arrive e s = .next t → e ≠ .rst → t.protocolState ≠ s.protocolState →
    let limitReached : Prop := s.params.retryLimit ≠ 0 ∧ s.params.retryLimit ≤ s.retryCount.toNat + 1
    let kept : Prop := t.outQ = s.outQ ∧ t.pendingReceive = s.pendingReceive
    e = .tick ∧ s.extraWait = 0#16 ∧ ∃ p q : ProtoState, s.protocolState = p.code ∧ t.protocolState = q.code
      ∧ ((s.subPhase = 1#2
          ∧ ((p = .idle ∧ (s.outQ ≠ [] ∨ 0 < s.pendingReceive.toNat) ∧ q = .start)
            ∨ (p = .sendAddress ∧ s.bitIndex = 6#3 ∧ q = .sendReadWriteBit)
            ∨ (p = .sendReadWriteBit ∧ q = .waitForAcknowledge)
            ∨ (p = .sendData ∧ s.bitIndex = 7#3 ∧ q = .waitForAcknowledge)
            ∨ (p = .sendAcknowledge ∧ s.pendingState = some q)
            ∨ (p = .sendNoAcknowledge ∧ q = .stop)))
        ∨ (s.subPhase = 3#2 ∧ s.waitFlag = false
          ∧ ((p = .start ∧ (s.outQ ≠ [] ∨ 0 < s.pendingReceive.toNat) ∧ q = .sendAddress)
            ∨ (p = .start ∧ s.outQ = [] ∧ s.pendingReceive = 0#16 ∧ q = .idle)
            ∨ (p = .waitForAcknowledge ∧ ((drawPeer s).1 = false ∨ s.cfgIgnoreAck = true) ∧ s.pendingState = some q)
            ∨ (p = .waitForAcknowledge ∧ (drawPeer s).1 = true ∧ s.cfgIgnoreAck = false
                ∧ (((s.cfgAckPolicy = false ∨ limitReached) ∧ q = .stop ∧ t.outQ = [] ∧ t.pendingReceive = 0#16)
                  ∨ (s.cfgAckPolicy = true ∧ ¬limitReached ∧ s.ackKind = true ∧ q = .sendData ∧ kept)
                  ∨ (s.cfgAckPolicy = true ∧ ¬limitReached ∧ s.ackKind = false ∧ q = .stop ∧ kept)))
            ∨ (p = .receiveData ∧ s.bitIndex = 7#3 ∧ 1 < s.pendingReceive.toNat ∧ q = .sendAcknowledge)
            ∨ (p = .receiveData ∧ s.bitIndex = 7#3 ∧ s.pendingReceive = 1#16 ∧ q = .sendNoAcknowledge)
            ∨ (p = .stop ∧ q = .idle))))

/-- R35: a sticky bit that is set stays set over every arrival but a reset and a CLRSTS whose mask selects it. -/
def Obligations.StickyBitsStay : Prop :=
  ∀ (s t : State) (e : PortEvent), arrive e s = .next t → e ≠ .rst →
    let cleared : Nat → Prop := fun k =>
      ∃ (w : CmdWord) (m : BitVec 4), e = .command w ∧ decodeCommand w = .clrsts m ∧ m.getLsbD k = true
    (s.stsTxOvf = true → t.stsTxOvf = true ∨ cleared 0) ∧ (s.stsRxOvf = true → t.stsRxOvf = true ∨ cleared 1)
      ∧ (s.stsNack = true → t.stsNack = true ∨ cleared 2)
      ∧ (s.stsBusTimeout = true → t.stsBusTimeout = true ∨ cleared 3)

/-- R35: a sticky bit is set only by the event R35 names for it, on a tick that is neither consumed nor paused. The retry
limit is tested on the exact sum (DEDUCED, log entry 11). -/
def Obligations.StickyBitsSetByTheirEvents : Prop :=
  ∀ (s t : State) (e : PortEvent), arrive e s = .next t →
    let samples : ProtoState → Prop := fun p =>
      e = .tick ∧ s.extraWait = 0#16 ∧ s.protocolState = p.code ∧ s.subPhase = 3#2 ∧ s.waitFlag = false
    (s.stsTxOvf = false → t.stsTxOvf = true →
      ∃ (w : CmdWord) (b : Byte), e = .command w ∧ decodeCommand w = .write b
        ∧ s.params.outqCap ≤ s.outQ.length)
    ∧ (s.stsRxOvf = false → t.stsRxOvf = true →
      samples .receiveData ∧ s.bitIndex = 7#3 ∧ s.inQ.length = s.params.inqCap)
    ∧ (s.stsNack = false → t.stsNack = true →
      samples .waitForAcknowledge ∧ (drawPeer s).1 = true ∧ s.cfgIgnoreAck = false)
    ∧ (s.stsBusTimeout = false → t.stsBusTimeout = true →
      samples .waitForAcknowledge ∧ (drawPeer s).1 = true ∧ s.cfgIgnoreAck = false ∧ s.cfgAckPolicy = true
        ∧ s.params.retryLimit ≠ 0 ∧ s.params.retryLimit ≤ s.retryCount.toNat + 1)

/-- R36: outside reset, the configuration bits change only in Idle and only by a SETCFG. -/
def Obligations.ConfigurationChangesOnlyInIdle : Prop :=
  ∀ (s t : State) (e : PortEvent), arrive e s = .next t → e ≠ .rst →
    (t.cfgAckPolicy ≠ s.cfgAckPolicy ∨ t.cfgIgnoreAck ≠ s.cfgIgnoreAck ∨ t.cfgOvfPolicy ≠ s.cfgOvfPolicy) →
      s.protocolState = ProtoState.idle.code
        ∧ ∃ (w : CmdWord) (a i o : Bool), e = .command w ∧ decodeCommand w = .setcfg a i o

/-- R60 to R64: outside reset, bytes enter and leave each queue only as these rules say: a WRITE (the oldest byte gives way
only in a full queue under Overwrite), the pop of SendData at bit 0, the flush of an abort; a POPRX, and the append of a
completed byte (the oldest gives way only in a full queue). The retry limit is tested on the exact sum (DEDUCED, log entry
11). -/
def Obligations.QueuesChangeOnlyByTheirOwners : Prop :=
  ∀ (s t : State) (e : PortEvent), arrive e s = .next t → e ≠ .rst →
    let acts : ProtoState → Phase → Prop := fun p ph =>
      e = .tick ∧ s.extraWait = 0#16 ∧ s.protocolState = p.code ∧ s.subPhase = ph
    (t.outQ ≠ s.outQ →
      (∃ (w : CmdWord) (b : Byte), e = .command w ∧ decodeCommand w = .write b
        ∧ ((s.outQ.length < s.params.outqCap ∧ t.outQ = s.outQ ++ [b])
          ∨ (s.params.outqCap ≤ s.outQ.length ∧ s.cfgOvfPolicy = true ∧ t.outQ = s.outQ.drop 1 ++ [b])))
      ∨ (acts .sendData 1#2 ∧ s.bitIndex = 0#3 ∧ s.resend = false ∧ s.outQ = t.shiftByte :: t.outQ)
      ∨ (acts .waitForAcknowledge 3#2 ∧ s.waitFlag = false ∧ (drawPeer s).1 = true ∧ s.cfgIgnoreAck = false
        ∧ (s.cfgAckPolicy = false
          ∨ (s.params.retryLimit ≠ 0 ∧ s.params.retryLimit ≤ s.retryCount.toNat + 1))
        ∧ t.outQ = []))
    ∧ (t.inQ ≠ s.inQ →
      (∃ (w : CmdWord) (b : Byte), e = .command w ∧ decodeCommand w = .poprx ∧ s.inQ = b :: t.inQ)
      ∨ (acts .receiveData 3#2 ∧ s.waitFlag = false ∧ s.bitIndex = 7#3
        ∧ ((s.inQ.length ≠ s.params.inqCap ∧ t.inQ = s.inQ ++ [t.shiftByte])
          ∨ (s.inQ.length = s.params.inqCap ∧ t.inQ = s.inQ.drop 1 ++ [t.shiftByte]))))

/-- R26: the address in flight is latched from `targetAddress` at initiation, the Idle sub-phase 1 tick that enters Start,
and nothing but reset changes it otherwise. -/
def Obligations.AddressLatchedAtInitiation : Prop :=
  ∀ (s t : State) (e : PortEvent), arrive e s = .next t → e ≠ .rst → t.txAddress ≠ s.txAddress →
    e = .tick ∧ s.protocolState = ProtoState.idle.code ∧ s.subPhase = 1#2
      ∧ t.protocolState = ProtoState.start.code ∧ t.txAddress = s.targetAddress

/-! ### Invariants -/

/-- The invariant holds out of reset, for the machine's own open parameters and for every legal choice of them, whatever
is to arrive. -/
def Obligations.ResetMeetsInvariant : Prop :=
  Inv State.reset
    ∧ ∀ (p : Params) (es : List PortEvent) (ds : List Bool) (rest : Option Bool) (n : Nat), p.wf →
      Inv (boot p es ds rest n)

/-- Every step of either agent, and a reset, keeps the invariant: the joint content of R22, R32, R37, R60, R61 and R170 to R176
with their derivations, from every state that meets it. -/
def Obligations.StepKeepsInvariant : Prop :=
  ∀ s t : State, Inv s → step s = .next t → Inv t

/-- R182: from a state that meets the invariant no step raises a model fault or is refused, whatever arrives and whatever
the peer drives. -/
def Obligations.InvariantStatesNeverFault : Prop :=
  ∀ (s : State) (e : PortEvent), Inv s → (∃ t, arrive e s = .next t) ∧ SafeStep s

/-- R170 to R176 as the spec states them, in every state reachable from reset under every legal parameter, every list of
arrivals and every peer; and no such state's step faults. -/
def Obligations.ReachableStatesMeetSpecInvariants : Prop :=
  ∀ s : State, Reachable s →
    PendingLifetime s
    ∧ (s.protocolState = ProtoState.start.code → (s.subPhase = 2#2 ∨ s.subPhase = 3#2) ∧ s.extraWait = 0#16)
    ∧ BitIndexBounds s ∧ PauseWindow s ∧ OutboundGuard s ∧ InboundGuard s ∧ PinLevels s ∧ SampleReleased s
    ∧ SafeStep s

/-- R182: which instruction raises which model fault, and in what state; nothing else faults, and nothing is refused. -/
def Obligations.FaultsOnlyAsListed : Prop :=
  ∀ (i : Instr) (s : State),
    (∀ r : Refusal, exec i s ≠ .refused r)
    ∧ ∀ f : Fault, exec i s = .fault f →
      (f = .pendingStateUndefined ∧ s.pendingState = none ∧ (i = .wackP3 ∨ ∃ wf, i = .sackP1 wf))
      ∨ (f = .outboundUnderflow ∧ s.outQ = [] ∧ s.resend = false ∧ s.bitIndex = 0#3 ∧ ∃ wf, i = .sdataP1 wf)
      ∨ (f = .receiveUnderflow ∧ s.pendingReceive = 0#16 ∧ s.bitIndex = 7#3 ∧ i = .rdataP3)
      ∨ (f = .readWhileDriving ∧ s.sdaDir = true ∧ (i = .wackP3 ∨ i = .rdataP3))
      ∨ (f = .reservedState
          ∧ ((∃ wf c ph, i = .tickReserved1011 wf c ph) ∨ ∃ wf c ph, i = .tickReserved1215 wf c ph))

/-! ### Runs of ticks -/

/-- R140 (corner case): with work pending in Idle and no extra wait running, a transaction begins within 4 ticks. -/
def Obligations.WorkBeginsWithinFourTicks : Prop :=
  ∀ s : State, Inv s → s.protocolState = ProtoState.idle.code → workPending s = true →
    ∃ (n : Nat) (t : State), n ≤ 4 ∧ runTicks n s = .next t ∧ t.protocolState = ProtoState.start.code
      ∧ t.txAddress = s.targetAddress

/-- R145, R66, and the source's property quoted in R177: from SendData at bit 0 the eight bits of the byte to send stand on
SDA, driven, most significant first, at the SCL high of each of the eight bit periods. The byte is the oldest queued one,
which leaves `outQ`, or on a resend the one still held, and then `outQ` stays. -/
def Obligations.ByteGoesOutMsbFirst : Prop :=
  ∀ (s : State) (b : Byte) (q : List Byte),
    s.protocolState = ProtoState.sendData.code → s.subPhase = 1#2 → s.bitIndex = 0#3 → s.extraWait = 0#16 →
    s.waitFlag = false →
    ((s.resend = false ∧ s.outQ = b :: q) ∨ (s.resend = true ∧ s.shiftByte = b ∧ s.outQ = q)) →
    ∀ i : Nat, i < 8 →
      ∃ t : State, runTicks (4 * i + 2) s = .next t ∧ t.sclDir = true ∧ t.sclLvl = true ∧ t.sdaDir = true
        ∧ t.sdaLvl = b.getLsbD (7 - i) ∧ t.outQ = q

/-- R162, R63, R66: from ReceiveData at bit 0 the levels the peer presents at the next eight samples become one byte of
`inQ`, most significant first, the oldest byte giving way in a full queue, and the count goes down by one. That the listed
draws are the levels sampled is the model's (log entry 5). -/
def Obligations.ByteComesInMsbFirst : Prop :=
  ∀ (s : State) (b : Byte) (ds : List Bool),
    s.protocolState = ProtoState.receiveData.code → s.subPhase = 1#2 → s.bitIndex = 0#3 → s.extraWait = 0#16 →
    s.waitFlag = false → 0 < s.pendingReceive.toNat →
    s.peerDraws = [b.getLsbD 7, b.getLsbD 6, b.getLsbD 5, b.getLsbD 4, b.getLsbD 3, b.getLsbD 2, b.getLsbD 1,
      b.getLsbD 0] ++ ds →
      ∃ t : State, runTicks 31 s = .next t ∧ t.peerDraws = ds
        ∧ t.inQ = (if s.inQ.length = s.params.inqCap then s.inQ.drop 1 else s.inQ) ++ [b]
        ∧ t.pendingReceive.toNat = s.pendingReceive.toNat - 1

/-- R142, R177: from SendAddress at bit 0 the seven bits of `txAddress` stand on SDA, driven, most significant first, at
the SCL high of each of the seven bit periods, and the eighth bit is the direction. -/
def Obligations.AddressGoesOutMsbFirst : Prop :=
  ∀ s : State,
    s.protocolState = ProtoState.sendAddress.code → s.subPhase = 1#2 → s.bitIndex = 0#3 → s.extraWait = 0#16 →
    s.waitFlag = false →
    (∀ i : Nat, i < 7 →
      ∃ t : State, runTicks (4 * i + 2) s = .next t ∧ t.sclLvl = true ∧ t.sdaDir = true
        ∧ t.sdaLvl = s.txAddress.getLsbD (6 - i))
    ∧ ∃ t : State, runTicks 30 s = .next t ∧ t.sclLvl = true ∧ t.sdaDir = true
        ∧ t.sdaLvl = decide (s.outQ = []) ∧ t.protocolState = ProtoState.waitForAcknowledge.code

/-- R213 for a write, with a peer that pulls SDA low at every acknowledge: the transaction that begins with tick T0 takes
43 + 36 k + START_WAIT + STOP_WAIT ticks for k bytes and ends in Idle with the bytes sent, the pending reads kept, and SCL
and SDA driven high. That the standing level is what every sample reads is the model's (log entry 5). -/
def Obligations.WriteTransactionTakesItsTicks : Prop :=
  ∀ s : State, Inv s → s.protocolState = ProtoState.idle.code → s.subPhase = 1#2 → s.outQ ≠ [] →
    s.peerDraws = [] → s.peerRest = some false →
      ∃ t : State,
        runTicks (43 + 36 * s.outQ.length + s.params.startWait.toNat + s.params.stopWait.toNat) s = .next t
        ∧ t.protocolState = ProtoState.idle.code ∧ t.subPhase = 0#2 ∧ t.outQ = []
        ∧ t.pendingReceive = s.pendingReceive ∧ t.stsNack = s.stsNack ∧ t.txAddress = s.targetAddress
        ∧ t.sclLvl = true ∧ t.sdaDir = true ∧ t.sdaLvl = true

/-- R213 for a read, with a peer that pulls SDA low at the address acknowledge and then presents the bytes `bs`, most
significant bit first: the transaction that begins with tick T0 takes 43 + 36 k + START_WAIT + STOP_WAIT ticks for the k
bytes asked for and ends in Idle with exactly those bytes appended to `inQ`, none left to read, and SCL and SDA driven
high. That the listed draws are the levels sampled is the model's (log entry 5). -/
def Obligations.ReadTransactionReceivesItsBytes : Prop :=
  ∀ (s : State) (bs : List Byte) (ds : List Bool), Inv s → s.protocolState = ProtoState.idle.code →
    s.subPhase = 1#2 → s.outQ = [] → bs ≠ [] → s.pendingReceive.toNat = bs.length →
    s.inQ.length + bs.length ≤ s.params.inqCap →
    s.peerDraws = false :: bs.flatMap (fun b => (List.range 8).map (fun i => b.getLsbD (7 - i))) ++ ds →
      ∃ t : State,
        runTicks (43 + 36 * bs.length + s.params.startWait.toNat + s.params.stopWait.toNat) s = .next t
        ∧ t.protocolState = ProtoState.idle.code ∧ t.subPhase = 0#2 ∧ t.inQ = s.inQ ++ bs ∧ t.peerDraws = ds
        ∧ t.pendingReceive = 0#16 ∧ t.stsNack = s.stsNack ∧ t.stsRxOvf = s.stsRxOvf
        ∧ t.txAddress = s.targetAddress ∧ t.sclLvl = true ∧ t.sdaDir = true ∧ t.sdaLvl = true
end

