-- ==== Sys2Proof/Laws/State.lean ====
section
/-! SUPPORT. One lemma per field for each plain update of the state: what it writes, and that it writes nothing else. -/

namespace Sys2Proof.Machine

/-! ### `enter` -/

@[simp] theorem enter_protocolState (p : ProtoState) (s : State) : (enter p s).protocolState = p.code := rfl
@[simp] theorem enter_subPhase (p : ProtoState) (s : State) : (enter p s).subPhase = s.subPhase := rfl
@[simp] theorem enter_bitIndex (p : ProtoState) (s : State) : (enter p s).bitIndex = s.bitIndex := rfl
@[simp] theorem enter_shiftByte (p : ProtoState) (s : State) : (enter p s).shiftByte = s.shiftByte := rfl
@[simp] theorem enter_targetAddress (p : ProtoState) (s : State) : (enter p s).targetAddress = s.targetAddress := rfl
@[simp] theorem enter_txAddress (p : ProtoState) (s : State) : (enter p s).txAddress = s.txAddress := rfl
@[simp] theorem enter_pendingReceive (p : ProtoState) (s : State) : (enter p s).pendingReceive = s.pendingReceive := rfl
@[simp] theorem enter_outQ (p : ProtoState) (s : State) : (enter p s).outQ = s.outQ := rfl
@[simp] theorem enter_inQ (p : ProtoState) (s : State) : (enter p s).inQ = s.inQ := rfl
@[simp] theorem enter_waitFlag (p : ProtoState) (s : State) : (enter p s).waitFlag = s.waitFlag := rfl
@[simp] theorem enter_extraWait (p : ProtoState) (s : State) : (enter p s).extraWait = s.extraWait := rfl
@[simp] theorem enter_pendingState (p : ProtoState) (s : State) : (enter p s).pendingState = s.pendingState := rfl
@[simp] theorem enter_resend (p : ProtoState) (s : State) : (enter p s).resend = s.resend := rfl
@[simp] theorem enter_ackKind (p : ProtoState) (s : State) : (enter p s).ackKind = s.ackKind := rfl
@[simp] theorem enter_retryCount (p : ProtoState) (s : State) : (enter p s).retryCount = s.retryCount := rfl
@[simp] theorem enter_stsTxOvf (p : ProtoState) (s : State) : (enter p s).stsTxOvf = s.stsTxOvf := rfl
@[simp] theorem enter_stsRxOvf (p : ProtoState) (s : State) : (enter p s).stsRxOvf = s.stsRxOvf := rfl
@[simp] theorem enter_stsNack (p : ProtoState) (s : State) : (enter p s).stsNack = s.stsNack := rfl
@[simp] theorem enter_stsBusTimeout (p : ProtoState) (s : State) : (enter p s).stsBusTimeout = s.stsBusTimeout := rfl
@[simp] theorem enter_cfgAckPolicy (p : ProtoState) (s : State) : (enter p s).cfgAckPolicy = s.cfgAckPolicy := rfl
@[simp] theorem enter_cfgIgnoreAck (p : ProtoState) (s : State) : (enter p s).cfgIgnoreAck = s.cfgIgnoreAck := rfl
@[simp] theorem enter_cfgOvfPolicy (p : ProtoState) (s : State) : (enter p s).cfgOvfPolicy = s.cfgOvfPolicy := rfl
@[simp] theorem enter_sclDir (p : ProtoState) (s : State) : (enter p s).sclDir = s.sclDir := rfl
@[simp] theorem enter_sclLvl (p : ProtoState) (s : State) : (enter p s).sclLvl = s.sclLvl := rfl
@[simp] theorem enter_sdaDir (p : ProtoState) (s : State) : (enter p s).sdaDir = s.sdaDir := rfl
@[simp] theorem enter_sdaLvl (p : ProtoState) (s : State) : (enter p s).sdaLvl = s.sdaLvl := rfl
@[simp] theorem enter_params (p : ProtoState) (s : State) : (enter p s).params = s.params := rfl
@[simp] theorem enter_rsp (p : ProtoState) (s : State) : (enter p s).rsp = s.rsp := rfl
@[simp] theorem enter_input (p : ProtoState) (s : State) : (enter p s).input = s.input := rfl
@[simp] theorem enter_peerDraws (p : ProtoState) (s : State) : (enter p s).peerDraws = s.peerDraws := rfl
@[simp] theorem enter_peerRest (p : ProtoState) (s : State) : (enter p s).peerRest = s.peerRest := rfl
@[simp] theorem enter_freeCount (p : ProtoState) (s : State) : (enter p s).freeCount = s.freeCount := rfl

/-! ### `advance` -/

@[simp] theorem advance_protocolState (s : State) : (advance s).protocolState = s.protocolState := rfl
@[simp] theorem advance_subPhase (s : State) : (advance s).subPhase = s.subPhase + 1#2 := rfl
@[simp] theorem advance_bitIndex (s : State) : (advance s).bitIndex = s.bitIndex := rfl
@[simp] theorem advance_shiftByte (s : State) : (advance s).shiftByte = s.shiftByte := rfl
@[simp] theorem advance_targetAddress (s : State) : (advance s).targetAddress = s.targetAddress := rfl
@[simp] theorem advance_txAddress (s : State) : (advance s).txAddress = s.txAddress := rfl
@[simp] theorem advance_pendingReceive (s : State) : (advance s).pendingReceive = s.pendingReceive := rfl
@[simp] theorem advance_outQ (s : State) : (advance s).outQ = s.outQ := rfl
@[simp] theorem advance_inQ (s : State) : (advance s).inQ = s.inQ := rfl
@[simp] theorem advance_waitFlag (s : State) : (advance s).waitFlag = s.waitFlag := rfl
@[simp] theorem advance_extraWait (s : State) : (advance s).extraWait = s.extraWait := rfl
@[simp] theorem advance_pendingState (s : State) : (advance s).pendingState = s.pendingState := rfl
@[simp] theorem advance_resend (s : State) : (advance s).resend = s.resend := rfl
@[simp] theorem advance_ackKind (s : State) : (advance s).ackKind = s.ackKind := rfl
@[simp] theorem advance_retryCount (s : State) : (advance s).retryCount = s.retryCount := rfl
@[simp] theorem advance_stsTxOvf (s : State) : (advance s).stsTxOvf = s.stsTxOvf := rfl
@[simp] theorem advance_stsRxOvf (s : State) : (advance s).stsRxOvf = s.stsRxOvf := rfl
@[simp] theorem advance_stsNack (s : State) : (advance s).stsNack = s.stsNack := rfl
@[simp] theorem advance_stsBusTimeout (s : State) : (advance s).stsBusTimeout = s.stsBusTimeout := rfl
@[simp] theorem advance_cfgAckPolicy (s : State) : (advance s).cfgAckPolicy = s.cfgAckPolicy := rfl
@[simp] theorem advance_cfgIgnoreAck (s : State) : (advance s).cfgIgnoreAck = s.cfgIgnoreAck := rfl
@[simp] theorem advance_cfgOvfPolicy (s : State) : (advance s).cfgOvfPolicy = s.cfgOvfPolicy := rfl
@[simp] theorem advance_sclDir (s : State) : (advance s).sclDir = s.sclDir := rfl
@[simp] theorem advance_sclLvl (s : State) : (advance s).sclLvl = s.sclLvl := rfl
@[simp] theorem advance_sdaDir (s : State) : (advance s).sdaDir = s.sdaDir := rfl
@[simp] theorem advance_sdaLvl (s : State) : (advance s).sdaLvl = s.sdaLvl := rfl
@[simp] theorem advance_params (s : State) : (advance s).params = s.params := rfl
@[simp] theorem advance_rsp (s : State) : (advance s).rsp = s.rsp := rfl
@[simp] theorem advance_input (s : State) : (advance s).input = s.input := rfl
@[simp] theorem advance_peerDraws (s : State) : (advance s).peerDraws = s.peerDraws := rfl
@[simp] theorem advance_peerRest (s : State) : (advance s).peerRest = s.peerRest := rfl
@[simp] theorem advance_freeCount (s : State) : (advance s).freeCount = s.freeCount := rfl

/-! ### `driveSCL` -/

@[simp] theorem driveSCL_protocolState (v : Bool) (s : State) : (driveSCL v s).protocolState = s.protocolState := rfl
@[simp] theorem driveSCL_subPhase (v : Bool) (s : State) : (driveSCL v s).subPhase = s.subPhase := rfl
@[simp] theorem driveSCL_bitIndex (v : Bool) (s : State) : (driveSCL v s).bitIndex = s.bitIndex := rfl
@[simp] theorem driveSCL_shiftByte (v : Bool) (s : State) : (driveSCL v s).shiftByte = s.shiftByte := rfl
@[simp] theorem driveSCL_targetAddress (v : Bool) (s : State) : (driveSCL v s).targetAddress = s.targetAddress := rfl
@[simp] theorem driveSCL_txAddress (v : Bool) (s : State) : (driveSCL v s).txAddress = s.txAddress := rfl
@[simp] theorem driveSCL_pendingReceive (v : Bool) (s : State) : (driveSCL v s).pendingReceive = s.pendingReceive := rfl
@[simp] theorem driveSCL_outQ (v : Bool) (s : State) : (driveSCL v s).outQ = s.outQ := rfl
@[simp] theorem driveSCL_inQ (v : Bool) (s : State) : (driveSCL v s).inQ = s.inQ := rfl
@[simp] theorem driveSCL_waitFlag (v : Bool) (s : State) : (driveSCL v s).waitFlag = s.waitFlag := rfl
@[simp] theorem driveSCL_extraWait (v : Bool) (s : State) : (driveSCL v s).extraWait = s.extraWait := rfl
@[simp] theorem driveSCL_pendingState (v : Bool) (s : State) : (driveSCL v s).pendingState = s.pendingState := rfl
@[simp] theorem driveSCL_resend (v : Bool) (s : State) : (driveSCL v s).resend = s.resend := rfl
@[simp] theorem driveSCL_ackKind (v : Bool) (s : State) : (driveSCL v s).ackKind = s.ackKind := rfl
@[simp] theorem driveSCL_retryCount (v : Bool) (s : State) : (driveSCL v s).retryCount = s.retryCount := rfl
@[simp] theorem driveSCL_stsTxOvf (v : Bool) (s : State) : (driveSCL v s).stsTxOvf = s.stsTxOvf := rfl
@[simp] theorem driveSCL_stsRxOvf (v : Bool) (s : State) : (driveSCL v s).stsRxOvf = s.stsRxOvf := rfl
@[simp] theorem driveSCL_stsNack (v : Bool) (s : State) : (driveSCL v s).stsNack = s.stsNack := rfl
@[simp] theorem driveSCL_stsBusTimeout (v : Bool) (s : State) : (driveSCL v s).stsBusTimeout = s.stsBusTimeout := rfl
@[simp] theorem driveSCL_cfgAckPolicy (v : Bool) (s : State) : (driveSCL v s).cfgAckPolicy = s.cfgAckPolicy := rfl
@[simp] theorem driveSCL_cfgIgnoreAck (v : Bool) (s : State) : (driveSCL v s).cfgIgnoreAck = s.cfgIgnoreAck := rfl
@[simp] theorem driveSCL_cfgOvfPolicy (v : Bool) (s : State) : (driveSCL v s).cfgOvfPolicy = s.cfgOvfPolicy := rfl
@[simp] theorem driveSCL_sclDir (v : Bool) (s : State) : (driveSCL v s).sclDir = true := rfl
@[simp] theorem driveSCL_sclLvl (v : Bool) (s : State) : (driveSCL v s).sclLvl = v := rfl
@[simp] theorem driveSCL_sdaDir (v : Bool) (s : State) : (driveSCL v s).sdaDir = s.sdaDir := rfl
@[simp] theorem driveSCL_sdaLvl (v : Bool) (s : State) : (driveSCL v s).sdaLvl = s.sdaLvl := rfl
@[simp] theorem driveSCL_params (v : Bool) (s : State) : (driveSCL v s).params = s.params := rfl
@[simp] theorem driveSCL_rsp (v : Bool) (s : State) : (driveSCL v s).rsp = s.rsp := rfl
@[simp] theorem driveSCL_input (v : Bool) (s : State) : (driveSCL v s).input = s.input := rfl
@[simp] theorem driveSCL_peerDraws (v : Bool) (s : State) : (driveSCL v s).peerDraws = s.peerDraws := rfl
@[simp] theorem driveSCL_peerRest (v : Bool) (s : State) : (driveSCL v s).peerRest = s.peerRest := rfl
@[simp] theorem driveSCL_freeCount (v : Bool) (s : State) : (driveSCL v s).freeCount = s.freeCount := rfl

/-! ### `driveSDA` -/

@[simp] theorem driveSDA_protocolState (v : Bool) (s : State) : (driveSDA v s).protocolState = s.protocolState := rfl
@[simp] theorem driveSDA_subPhase (v : Bool) (s : State) : (driveSDA v s).subPhase = s.subPhase := rfl
@[simp] theorem driveSDA_bitIndex (v : Bool) (s : State) : (driveSDA v s).bitIndex = s.bitIndex := rfl
@[simp] theorem driveSDA_shiftByte (v : Bool) (s : State) : (driveSDA v s).shiftByte = s.shiftByte := rfl
@[simp] theorem driveSDA_targetAddress (v : Bool) (s : State) : (driveSDA v s).targetAddress = s.targetAddress := rfl
@[simp] theorem driveSDA_txAddress (v : Bool) (s : State) : (driveSDA v s).txAddress = s.txAddress := rfl
@[simp] theorem driveSDA_pendingReceive (v : Bool) (s : State) : (driveSDA v s).pendingReceive = s.pendingReceive := rfl
@[simp] theorem driveSDA_outQ (v : Bool) (s : State) : (driveSDA v s).outQ = s.outQ := rfl
@[simp] theorem driveSDA_inQ (v : Bool) (s : State) : (driveSDA v s).inQ = s.inQ := rfl
@[simp] theorem driveSDA_waitFlag (v : Bool) (s : State) : (driveSDA v s).waitFlag = s.waitFlag := rfl
@[simp] theorem driveSDA_extraWait (v : Bool) (s : State) : (driveSDA v s).extraWait = s.extraWait := rfl
@[simp] theorem driveSDA_pendingState (v : Bool) (s : State) : (driveSDA v s).pendingState = s.pendingState := rfl
@[simp] theorem driveSDA_resend (v : Bool) (s : State) : (driveSDA v s).resend = s.resend := rfl
@[simp] theorem driveSDA_ackKind (v : Bool) (s : State) : (driveSDA v s).ackKind = s.ackKind := rfl
@[simp] theorem driveSDA_retryCount (v : Bool) (s : State) : (driveSDA v s).retryCount = s.retryCount := rfl
@[simp] theorem driveSDA_stsTxOvf (v : Bool) (s : State) : (driveSDA v s).stsTxOvf = s.stsTxOvf := rfl
@[simp] theorem driveSDA_stsRxOvf (v : Bool) (s : State) : (driveSDA v s).stsRxOvf = s.stsRxOvf := rfl
@[simp] theorem driveSDA_stsNack (v : Bool) (s : State) : (driveSDA v s).stsNack = s.stsNack := rfl
@[simp] theorem driveSDA_stsBusTimeout (v : Bool) (s : State) : (driveSDA v s).stsBusTimeout = s.stsBusTimeout := rfl
@[simp] theorem driveSDA_cfgAckPolicy (v : Bool) (s : State) : (driveSDA v s).cfgAckPolicy = s.cfgAckPolicy := rfl
@[simp] theorem driveSDA_cfgIgnoreAck (v : Bool) (s : State) : (driveSDA v s).cfgIgnoreAck = s.cfgIgnoreAck := rfl
@[simp] theorem driveSDA_cfgOvfPolicy (v : Bool) (s : State) : (driveSDA v s).cfgOvfPolicy = s.cfgOvfPolicy := rfl
@[simp] theorem driveSDA_sclDir (v : Bool) (s : State) : (driveSDA v s).sclDir = s.sclDir := rfl
@[simp] theorem driveSDA_sclLvl (v : Bool) (s : State) : (driveSDA v s).sclLvl = s.sclLvl := rfl
@[simp] theorem driveSDA_sdaDir (v : Bool) (s : State) : (driveSDA v s).sdaDir = true := rfl
@[simp] theorem driveSDA_sdaLvl (v : Bool) (s : State) : (driveSDA v s).sdaLvl = v := rfl
@[simp] theorem driveSDA_params (v : Bool) (s : State) : (driveSDA v s).params = s.params := rfl
@[simp] theorem driveSDA_rsp (v : Bool) (s : State) : (driveSDA v s).rsp = s.rsp := rfl
@[simp] theorem driveSDA_input (v : Bool) (s : State) : (driveSDA v s).input = s.input := rfl
@[simp] theorem driveSDA_peerDraws (v : Bool) (s : State) : (driveSDA v s).peerDraws = s.peerDraws := rfl
@[simp] theorem driveSDA_peerRest (v : Bool) (s : State) : (driveSDA v s).peerRest = s.peerRest := rfl
@[simp] theorem driveSDA_freeCount (v : Bool) (s : State) : (driveSDA v s).freeCount = s.freeCount := rfl

/-! ### `releaseSDA` -/

@[simp] theorem releaseSDA_protocolState (s : State) : (releaseSDA s).protocolState = s.protocolState := rfl
@[simp] theorem releaseSDA_subPhase (s : State) : (releaseSDA s).subPhase = s.subPhase := rfl
@[simp] theorem releaseSDA_bitIndex (s : State) : (releaseSDA s).bitIndex = s.bitIndex := rfl
@[simp] theorem releaseSDA_shiftByte (s : State) : (releaseSDA s).shiftByte = s.shiftByte := rfl
@[simp] theorem releaseSDA_targetAddress (s : State) : (releaseSDA s).targetAddress = s.targetAddress := rfl
@[simp] theorem releaseSDA_txAddress (s : State) : (releaseSDA s).txAddress = s.txAddress := rfl
@[simp] theorem releaseSDA_pendingReceive (s : State) : (releaseSDA s).pendingReceive = s.pendingReceive := rfl
@[simp] theorem releaseSDA_outQ (s : State) : (releaseSDA s).outQ = s.outQ := rfl
@[simp] theorem releaseSDA_inQ (s : State) : (releaseSDA s).inQ = s.inQ := rfl
@[simp] theorem releaseSDA_waitFlag (s : State) : (releaseSDA s).waitFlag = s.waitFlag := rfl
@[simp] theorem releaseSDA_extraWait (s : State) : (releaseSDA s).extraWait = s.extraWait := rfl
@[simp] theorem releaseSDA_pendingState (s : State) : (releaseSDA s).pendingState = s.pendingState := rfl
@[simp] theorem releaseSDA_resend (s : State) : (releaseSDA s).resend = s.resend := rfl
@[simp] theorem releaseSDA_ackKind (s : State) : (releaseSDA s).ackKind = s.ackKind := rfl
@[simp] theorem releaseSDA_retryCount (s : State) : (releaseSDA s).retryCount = s.retryCount := rfl
@[simp] theorem releaseSDA_stsTxOvf (s : State) : (releaseSDA s).stsTxOvf = s.stsTxOvf := rfl
@[simp] theorem releaseSDA_stsRxOvf (s : State) : (releaseSDA s).stsRxOvf = s.stsRxOvf := rfl
@[simp] theorem releaseSDA_stsNack (s : State) : (releaseSDA s).stsNack = s.stsNack := rfl
@[simp] theorem releaseSDA_stsBusTimeout (s : State) : (releaseSDA s).stsBusTimeout = s.stsBusTimeout := rfl
@[simp] theorem releaseSDA_cfgAckPolicy (s : State) : (releaseSDA s).cfgAckPolicy = s.cfgAckPolicy := rfl
@[simp] theorem releaseSDA_cfgIgnoreAck (s : State) : (releaseSDA s).cfgIgnoreAck = s.cfgIgnoreAck := rfl
@[simp] theorem releaseSDA_cfgOvfPolicy (s : State) : (releaseSDA s).cfgOvfPolicy = s.cfgOvfPolicy := rfl
@[simp] theorem releaseSDA_sclDir (s : State) : (releaseSDA s).sclDir = s.sclDir := rfl
@[simp] theorem releaseSDA_sclLvl (s : State) : (releaseSDA s).sclLvl = s.sclLvl := rfl
@[simp] theorem releaseSDA_sdaDir (s : State) : (releaseSDA s).sdaDir = false := rfl
@[simp] theorem releaseSDA_sdaLvl (s : State) : (releaseSDA s).sdaLvl = s.sdaLvl := rfl
@[simp] theorem releaseSDA_params (s : State) : (releaseSDA s).params = s.params := rfl
@[simp] theorem releaseSDA_rsp (s : State) : (releaseSDA s).rsp = s.rsp := rfl
@[simp] theorem releaseSDA_input (s : State) : (releaseSDA s).input = s.input := rfl
@[simp] theorem releaseSDA_peerDraws (s : State) : (releaseSDA s).peerDraws = s.peerDraws := rfl
@[simp] theorem releaseSDA_peerRest (s : State) : (releaseSDA s).peerRest = s.peerRest := rfl
@[simp] theorem releaseSDA_freeCount (s : State) : (releaseSDA s).freeCount = s.freeCount := rfl

/-! ### `armPause` -/

@[simp] theorem armPause_protocolState (s : State) : (armPause s).protocolState = s.protocolState := rfl
@[simp] theorem armPause_subPhase (s : State) : (armPause s).subPhase = s.subPhase := rfl
@[simp] theorem armPause_bitIndex (s : State) : (armPause s).bitIndex = s.bitIndex := rfl
@[simp] theorem armPause_shiftByte (s : State) : (armPause s).shiftByte = s.shiftByte := rfl
@[simp] theorem armPause_targetAddress (s : State) : (armPause s).targetAddress = s.targetAddress := rfl
@[simp] theorem armPause_txAddress (s : State) : (armPause s).txAddress = s.txAddress := rfl
@[simp] theorem armPause_pendingReceive (s : State) : (armPause s).pendingReceive = s.pendingReceive := rfl
@[simp] theorem armPause_outQ (s : State) : (armPause s).outQ = s.outQ := rfl
@[simp] theorem armPause_inQ (s : State) : (armPause s).inQ = s.inQ := rfl
@[simp] theorem armPause_waitFlag (s : State) : (armPause s).waitFlag = true := rfl
@[simp] theorem armPause_extraWait (s : State) : (armPause s).extraWait = s.extraWait := rfl
@[simp] theorem armPause_pendingState (s : State) : (armPause s).pendingState = s.pendingState := rfl
@[simp] theorem armPause_resend (s : State) : (armPause s).resend = s.resend := rfl
@[simp] theorem armPause_ackKind (s : State) : (armPause s).ackKind = s.ackKind := rfl
@[simp] theorem armPause_retryCount (s : State) : (armPause s).retryCount = s.retryCount := rfl
@[simp] theorem armPause_stsTxOvf (s : State) : (armPause s).stsTxOvf = s.stsTxOvf := rfl
@[simp] theorem armPause_stsRxOvf (s : State) : (armPause s).stsRxOvf = s.stsRxOvf := rfl
@[simp] theorem armPause_stsNack (s : State) : (armPause s).stsNack = s.stsNack := rfl
@[simp] theorem armPause_stsBusTimeout (s : State) : (armPause s).stsBusTimeout = s.stsBusTimeout := rfl
@[simp] theorem armPause_cfgAckPolicy (s : State) : (armPause s).cfgAckPolicy = s.cfgAckPolicy := rfl
@[simp] theorem armPause_cfgIgnoreAck (s : State) : (armPause s).cfgIgnoreAck = s.cfgIgnoreAck := rfl
@[simp] theorem armPause_cfgOvfPolicy (s : State) : (armPause s).cfgOvfPolicy = s.cfgOvfPolicy := rfl
@[simp] theorem armPause_sclDir (s : State) : (armPause s).sclDir = s.sclDir := rfl
@[simp] theorem armPause_sclLvl (s : State) : (armPause s).sclLvl = s.sclLvl := rfl
@[simp] theorem armPause_sdaDir (s : State) : (armPause s).sdaDir = s.sdaDir := rfl
@[simp] theorem armPause_sdaLvl (s : State) : (armPause s).sdaLvl = s.sdaLvl := rfl
@[simp] theorem armPause_params (s : State) : (armPause s).params = s.params := rfl
@[simp] theorem armPause_rsp (s : State) : (armPause s).rsp = s.rsp := rfl
@[simp] theorem armPause_input (s : State) : (armPause s).input = s.input := rfl
@[simp] theorem armPause_peerDraws (s : State) : (armPause s).peerDraws = s.peerDraws := rfl
@[simp] theorem armPause_peerRest (s : State) : (armPause s).peerRest = s.peerRest := rfl
@[simp] theorem armPause_freeCount (s : State) : (armPause s).freeCount = s.freeCount := rfl

/-! ### `abort` -/

@[simp] theorem abort_protocolState (s : State) : (abort s).protocolState = ProtoState.stop.code := rfl
@[simp] theorem abort_subPhase (s : State) : (abort s).subPhase = s.subPhase := rfl
@[simp] theorem abort_bitIndex (s : State) : (abort s).bitIndex = s.bitIndex := rfl
@[simp] theorem abort_shiftByte (s : State) : (abort s).shiftByte = s.shiftByte := rfl
@[simp] theorem abort_targetAddress (s : State) : (abort s).targetAddress = s.targetAddress := rfl
@[simp] theorem abort_txAddress (s : State) : (abort s).txAddress = s.txAddress := rfl
@[simp] theorem abort_pendingReceive (s : State) : (abort s).pendingReceive = 0#16 := rfl
@[simp] theorem abort_outQ (s : State) : (abort s).outQ = [] := rfl
@[simp] theorem abort_inQ (s : State) : (abort s).inQ = s.inQ := rfl
@[simp] theorem abort_waitFlag (s : State) : (abort s).waitFlag = s.waitFlag := rfl
@[simp] theorem abort_extraWait (s : State) : (abort s).extraWait = s.extraWait := rfl
@[simp] theorem abort_pendingState (s : State) : (abort s).pendingState = none := rfl
@[simp] theorem abort_resend (s : State) : (abort s).resend = false := rfl
@[simp] theorem abort_ackKind (s : State) : (abort s).ackKind = s.ackKind := rfl
@[simp] theorem abort_retryCount (s : State) : (abort s).retryCount = s.retryCount := rfl
@[simp] theorem abort_stsTxOvf (s : State) : (abort s).stsTxOvf = s.stsTxOvf := rfl
@[simp] theorem abort_stsRxOvf (s : State) : (abort s).stsRxOvf = s.stsRxOvf := rfl
@[simp] theorem abort_stsNack (s : State) : (abort s).stsNack = s.stsNack := rfl
@[simp] theorem abort_stsBusTimeout (s : State) : (abort s).stsBusTimeout = s.stsBusTimeout := rfl
@[simp] theorem abort_cfgAckPolicy (s : State) : (abort s).cfgAckPolicy = s.cfgAckPolicy := rfl
@[simp] theorem abort_cfgIgnoreAck (s : State) : (abort s).cfgIgnoreAck = s.cfgIgnoreAck := rfl
@[simp] theorem abort_cfgOvfPolicy (s : State) : (abort s).cfgOvfPolicy = s.cfgOvfPolicy := rfl
@[simp] theorem abort_sclDir (s : State) : (abort s).sclDir = s.sclDir := rfl
@[simp] theorem abort_sclLvl (s : State) : (abort s).sclLvl = s.sclLvl := rfl
@[simp] theorem abort_sdaDir (s : State) : (abort s).sdaDir = s.sdaDir := rfl
@[simp] theorem abort_sdaLvl (s : State) : (abort s).sdaLvl = s.sdaLvl := rfl
@[simp] theorem abort_params (s : State) : (abort s).params = s.params := rfl
@[simp] theorem abort_rsp (s : State) : (abort s).rsp = s.rsp := rfl
@[simp] theorem abort_input (s : State) : (abort s).input = s.input := rfl
@[simp] theorem abort_peerDraws (s : State) : (abort s).peerDraws = s.peerDraws := rfl
@[simp] theorem abort_peerRest (s : State) : (abort s).peerRest = s.peerRest := rfl
@[simp] theorem abort_freeCount (s : State) : (abort s).freeCount = s.freeCount := rfl

/-! ### `respond` -/

@[simp] theorem respond_protocolState (ok : Bool) (data : CmdWord) (s : State) : (respond ok data s).protocolState = s.protocolState := rfl
@[simp] theorem respond_subPhase (ok : Bool) (data : CmdWord) (s : State) : (respond ok data s).subPhase = s.subPhase := rfl
@[simp] theorem respond_bitIndex (ok : Bool) (data : CmdWord) (s : State) : (respond ok data s).bitIndex = s.bitIndex := rfl
@[simp] theorem respond_shiftByte (ok : Bool) (data : CmdWord) (s : State) : (respond ok data s).shiftByte = s.shiftByte := rfl
@[simp] theorem respond_targetAddress (ok : Bool) (data : CmdWord) (s : State) : (respond ok data s).targetAddress = s.targetAddress := rfl
@[simp] theorem respond_txAddress (ok : Bool) (data : CmdWord) (s : State) : (respond ok data s).txAddress = s.txAddress := rfl
@[simp] theorem respond_pendingReceive (ok : Bool) (data : CmdWord) (s : State) : (respond ok data s).pendingReceive = s.pendingReceive := rfl
@[simp] theorem respond_outQ (ok : Bool) (data : CmdWord) (s : State) : (respond ok data s).outQ = s.outQ := rfl
@[simp] theorem respond_inQ (ok : Bool) (data : CmdWord) (s : State) : (respond ok data s).inQ = s.inQ := rfl
@[simp] theorem respond_waitFlag (ok : Bool) (data : CmdWord) (s : State) : (respond ok data s).waitFlag = s.waitFlag := rfl
@[simp] theorem respond_extraWait (ok : Bool) (data : CmdWord) (s : State) : (respond ok data s).extraWait = s.extraWait := rfl
@[simp] theorem respond_pendingState (ok : Bool) (data : CmdWord) (s : State) : (respond ok data s).pendingState = s.pendingState := rfl
@[simp] theorem respond_resend (ok : Bool) (data : CmdWord) (s : State) : (respond ok data s).resend = s.resend := rfl
@[simp] theorem respond_ackKind (ok : Bool) (data : CmdWord) (s : State) : (respond ok data s).ackKind = s.ackKind := rfl
@[simp] theorem respond_retryCount (ok : Bool) (data : CmdWord) (s : State) : (respond ok data s).retryCount = s.retryCount := rfl
@[simp] theorem respond_stsTxOvf (ok : Bool) (data : CmdWord) (s : State) : (respond ok data s).stsTxOvf = s.stsTxOvf := rfl
@[simp] theorem respond_stsRxOvf (ok : Bool) (data : CmdWord) (s : State) : (respond ok data s).stsRxOvf = s.stsRxOvf := rfl
@[simp] theorem respond_stsNack (ok : Bool) (data : CmdWord) (s : State) : (respond ok data s).stsNack = s.stsNack := rfl
@[simp] theorem respond_stsBusTimeout (ok : Bool) (data : CmdWord) (s : State) : (respond ok data s).stsBusTimeout = s.stsBusTimeout := rfl
@[simp] theorem respond_cfgAckPolicy (ok : Bool) (data : CmdWord) (s : State) : (respond ok data s).cfgAckPolicy = s.cfgAckPolicy := rfl
@[simp] theorem respond_cfgIgnoreAck (ok : Bool) (data : CmdWord) (s : State) : (respond ok data s).cfgIgnoreAck = s.cfgIgnoreAck := rfl
@[simp] theorem respond_cfgOvfPolicy (ok : Bool) (data : CmdWord) (s : State) : (respond ok data s).cfgOvfPolicy = s.cfgOvfPolicy := rfl
@[simp] theorem respond_sclDir (ok : Bool) (data : CmdWord) (s : State) : (respond ok data s).sclDir = s.sclDir := rfl
@[simp] theorem respond_sclLvl (ok : Bool) (data : CmdWord) (s : State) : (respond ok data s).sclLvl = s.sclLvl := rfl
@[simp] theorem respond_sdaDir (ok : Bool) (data : CmdWord) (s : State) : (respond ok data s).sdaDir = s.sdaDir := rfl
@[simp] theorem respond_sdaLvl (ok : Bool) (data : CmdWord) (s : State) : (respond ok data s).sdaLvl = s.sdaLvl := rfl
@[simp] theorem respond_params (ok : Bool) (data : CmdWord) (s : State) : (respond ok data s).params = s.params := rfl
@[simp] theorem respond_rsp (ok : Bool) (data : CmdWord) (s : State) : (respond ok data s).rsp = some ⟨ok, data⟩ := rfl
@[simp] theorem respond_input (ok : Bool) (data : CmdWord) (s : State) : (respond ok data s).input = s.input := rfl
@[simp] theorem respond_peerDraws (ok : Bool) (data : CmdWord) (s : State) : (respond ok data s).peerDraws = s.peerDraws := rfl
@[simp] theorem respond_peerRest (ok : Bool) (data : CmdWord) (s : State) : (respond ok data s).peerRest = s.peerRest := rfl
@[simp] theorem respond_freeCount (ok : Bool) (data : CmdWord) (s : State) : (respond ok data s).freeCount = s.freeCount := rfl

end Sys2Proof.Machine
end

