-- ==== Sys2Proof/Laws/Ops.lean ====
section
/-! SUPPORT. One lemma for each shared operation that says all it can do, and the laws of codes and keys. -/

namespace Sys2Proof.Machine

/-! ### Codes and keys -/

theorem stateOfCode_code (p : ProtoState) : stateOfCode p.code = some p := by cases p <;> rfl

theorem code_injective {p q : ProtoState} (h : p.code = q.code) : p = q := by
  revert p q; intro p q; cases p <;> cases q <;> decide

/-- A code below 10 names a state (R86). -/
theorem legalCode_names_state (c : StateCode) (h : c.toNat < 10) : ∃ p : ProtoState, c = p.code := by
  have key : ∀ c : StateCode, c.toNat < 10 → ∃ p ∈ [ProtoState.idle, .start, .sendAddress, .sendReadWriteBit,
      .waitForAcknowledge, .sendData, .receiveData, .sendAcknowledge, .sendNoAcknowledge, .stop], c = p.code := by
    decide
  obtain ⟨p, -, hp⟩ := key c h
  exact ⟨p, hp⟩

theorem stateOfCode_reserved (c : StateCode) (h : 10 ≤ c.toNat) : stateOfCode c = none := by
  revert c; decide

theorem keyOf_gate (g w : Bool) (c : StateCode) (ph : Phase) : (keyOf g w c ph).getLsbD 7 = g := by
  revert g w c ph; decide

theorem keyOf_waitFlag (g w : Bool) (c : StateCode) (ph : Phase) : (keyOf g w c ph).getLsbD 6 = w := by
  revert g w c ph; decide

theorem keyOf_code (g w : Bool) (c : StateCode) (ph : Phase) : (keyOf g w c ph).extractLsb' 2 4 = c := by
  revert g w c ph; decide

theorem keyOf_phase (g w : Bool) (c : StateCode) (ph : Phase) : (keyOf g w c ph).extractLsb' 0 2 = ph := by
  revert g w c ph; decide

/-- The row a tick selects, in terms of the state's own fields (R87). -/
theorem decodeKey_tickKey (s : State) :
    decodeKey (tickKey s) =
      if s.extraWait ≠ 0#16 then .tickConsume s.waitFlag s.protocolState s.subPhase
      else
        match stateOfCode s.protocolState with
        | none => reservedRow s.waitFlag s.protocolState s.subPhase
        | some p => openGateRow s.waitFlag s.protocolState s.subPhase p := by
  cases h : stateOfCode s.protocolState <;>
    simp only [decodeKey, tickKey, keyOf_gate, keyOf_waitFlag, keyOf_code, keyOf_phase, decide_eq_true_eq, h]

/-! ### Pins and draws -/

/-- A draw changes only the model's record of the peer (R130). -/
theorem drawPeer_frame (s : State) :
    ∃ ds n, (drawPeer s).2 = { s with peerDraws := ds, freeCount := n } := by
  unfold drawPeer; split <;> exact ⟨_, _, rfl⟩

/-- A listed draw is the level sampled. -/
theorem drawPeer_listed (s : State) (d : Bool) (ds : List Bool) (h : s.peerDraws = d :: ds) :
    drawPeer s = (d, { s with peerDraws := ds }) := by
  unfold drawPeer; rw [h]

/-- If a sample goes on to a next state, SDA was released and the continuation ran on one draw (R130). -/
theorem sampleSDA_next {s t : State} {k : Bool → State → Host.Outcome State Fault Refusal}
    (h : sampleSDA s k = .next t) : s.sdaDir = false ∧ k (drawPeer s).1 (drawPeer s).2 = .next t := by
  unfold sampleSDA at h
  split at h
  · cases h
  · exact ⟨by simpa using ‹¬ s.sdaDir = true›, h⟩

/-! ### Queues -/

/-- All `PushOut` can do (R62). -/
theorem pushOut_cases (b : Byte) (s : State) :
    (s.outQ.length < s.params.outqCap ∧ pushOut b s = (true, { s with outQ := s.outQ ++ [b] }))
    ∨ (s.params.outqCap ≤ s.outQ.length ∧ s.cfgOvfPolicy = true
        ∧ pushOut b s = (true, { s with stsTxOvf := true, outQ := s.outQ.tail ++ [b] }))
    ∨ (s.params.outqCap ≤ s.outQ.length ∧ s.cfgOvfPolicy = false
        ∧ pushOut b s = (false, { s with stsTxOvf := true })) := by
  unfold pushOut
  by_cases h : s.outQ.length < s.params.outqCap
  · simp [h]
  · cases hp : s.cfgOvfPolicy <;> simp [h, not_lt.mp h]

/-- All `PushIn` can do (R63). -/
theorem pushIn_cases (b : Byte) (s : State) :
    (s.inQ.length = s.params.inqCap ∧ pushIn b s = { s with stsRxOvf := true, inQ := s.inQ.tail ++ [b] })
    ∨ (s.inQ.length ≠ s.params.inqCap ∧ pushIn b s = { s with inQ := s.inQ ++ [b] }) := by
  unfold pushIn; split <;> simp_all

/-- `PushOut` of one byte never leaves the queue longer than it was and its capacity both (R60). -/
theorem pushOut_length (b : Byte) (s : State) (h1 : 1 ≤ s.params.outqCap) (h : s.outQ.length ≤ s.params.outqCap) :
    (pushOut b s).2.outQ.length ≤ s.params.outqCap := by
  rcases pushOut_cases b s with ⟨hl, e⟩ | ⟨hl, -, e⟩ | ⟨-, -, e⟩ <;> simp only [e, List.length_append, List.length_tail,
    List.length_singleton] <;> omega

/-- `PushIn` keeps to the capacity (R61). -/
theorem pushIn_length (b : Byte) (s : State) (h1 : 1 ≤ s.params.inqCap) (h : s.inQ.length ≤ s.params.inqCap) :
    (pushIn b s).inQ.length ≤ s.params.inqCap := by
  rcases pushIn_cases b s with ⟨hl, e⟩ | ⟨hl, e⟩ <;> simp only [e, List.length_append, List.length_tail,
    List.length_singleton] <;> omega

/-! ### Retry count -/

theorem zeroRetry_eq (s : State) :
    zeroRetry s = { s with retryCount := if s.params.retryLimit = 0 then s.retryCount else 0#16 } := by
  unfold zeroRetry; split <;> rfl

/-- All the count of a failed acknowledge can do (R161, log entry 3). -/
theorem countRetry_cases (s : State) :
    (s.params.retryLimit = 0 ∧ countRetry s = s)
    ∨ (s.params.retryLimit ≠ 0 ∧ s.retryCount = 0xFFFF#16
        ∧ countRetry s = { s with retryCount := Config.openCount s.freeCount, freeCount := s.freeCount + 1 })
    ∨ (s.params.retryLimit ≠ 0 ∧ s.retryCount ≠ 0xFFFF#16
        ∧ countRetry s = { s with retryCount := s.retryCount + 1#16 }) := by
  unfold countRetry
  by_cases h : s.params.retryLimit = 0
  · simp [h]
  · by_cases c : s.retryCount = 0xFFFF#16 <;> simp [h, c]

/-- Counting a failed acknowledge writes the count and the counter of free values alone. -/
theorem countRetry_frame (s : State) : ∃ c n, countRetry s = { s with retryCount := c, freeCount := n } := by
  rcases countRetry_cases s with ⟨-, e⟩ | ⟨-, -, e⟩ | ⟨-, -, e⟩ <;> exact ⟨_, _, e⟩

/-- The only element a clock edge can write besides nothing (R122, R123). -/
theorem clockEdge_eq (v : Bool) (s : State) :
    clockEdge v s = { s with sclDir := if inState .idle s then s.sclDir else true,
                             sclLvl := if inState .idle s then s.sclLvl else v } := by
  unfold clockEdge; split <;> simp_all [driveSCL]

/-! ### Arrivals -/

theorem takeEvent_listed (s : State) (e : PortEvent) (es : List PortEvent) (h : s.input = e :: es) :
    takeEvent s = (e, { s with input := es }) := by
  unfold takeEvent; rw [h]

/-- With none listed, a tick comes up when no host step is drawn. -/
theorem takeEvent_tick (s : State) (h : s.input = []) (hs : Config.hostSteps s.freeCount = []) :
    takeEvent s = (.tick, { s with freeCount := s.freeCount + 1 }) := by
  simp only [takeEvent, h, hs]

/-- With none listed, the host steps drawn come up in their order, and then a tick. -/
theorem takeEvent_host (s : State) (e : PortEvent) (es : List PortEvent) (h : s.input = [])
    (hs : Config.hostSteps s.freeCount = e :: es) :
    takeEvent s = (e, { s with input := es ++ [.tick], freeCount := s.freeCount + 1 }) := by
  simp only [takeEvent, h, hs]

/-- Taking an arrival changes only the model's record of what is to come. -/
theorem takeEvent_frame (s : State) : ∃ es n, (takeEvent s).2 = { s with input := es, freeCount := n } := by
  unfold takeEvent
  split
  · exact ⟨_, _, rfl⟩
  · split <;> exact ⟨_, _, rfl⟩

/-- The table word placed at the ports is what the next step runs: a command. -/
theorem step_withFetchWord_command (s : State) (w : Nat) (h : w < 65536) :
    step (s.withFetchWord 16 w) = exec (decodeCommand (BitVec.ofNat 16 w)) s := by
  simp [State.withFetchWord, placeTableWord, codeOfTableWord, h, placeCode, present, step, takeEvent, arrive]

/-- The key placed at the control point is the key the next tick reads. -/
theorem tickKey_placeKey (k : TickKey) (s : State) : tickKey (placeKey k s) = k := by
  have key : ∀ k : TickKey, keyOf (k.getLsbD 7) (k.getLsbD 6) (k.extractLsb' 2 4) (k.extractLsb' 0 2) = k := by decide
  have gate : decide ((placeKey k s).extraWait ≠ 0#16) = k.getLsbD 7 := by
    simp only [placeKey]; split <;> simp_all; split <;> simp_all
  rw [tickKey, gate]
  exact key k

/-- The table word placed at the ports is what the next step runs: a tick. -/
theorem step_withFetchWord_tick (s : State) (w : Nat) (h : w < 256) :
    step (s.withFetchWord 8 w) = exec (decodeKey (BitVec.ofNat 8 w)) (placeKey (BitVec.ofNat 8 w) s) := by
  have e : takeEvent (s.withFetchWord 8 w) = (.tick, placeKey (BitVec.ofNat 8 w) s) := by
    simp [State.withFetchWord, placeTableWord, codeOfTableWord, h, placeCode, present, takeEvent]
  rw [step, e]
  simp only [arrive, tickKey_placeKey]

end Sys2Proof.Machine
end

