-- ==== Sys2Proof/Laws/PerInstr.lean ====
section
/-! SUPPORT. Statements made per instruction, about the instruction as syntax. `RowBits`: the encoding of every
instruction carries the fixed bits of its row of spec/opcode_table.json. -/

namespace Sys2Proof

/-- A mask on the number of a command word is the mask on its bits. -/
theorem masked_of_bits (w m v : CmdWord) (h : w &&& m = v) : w.toNat &&& m.toNat = v.toNat := by
  rw [← h, BitVec.toNat_and]

/-- A field above the operand survives the mask of that field. -/
theorem high_field {a b : Nat} (x : BitVec a) (y : BitVec b) :
    (x ++ y) &&& (BitVec.allOnes a ++ 0#b) = x ++ 0#b := by
  ext i hi
  simp only [BitVec.getElem_and, BitVec.getElem_append]
  split <;> simp

namespace Laws.RowBits

/-- The encoding has the row's fixed bits. -/
def Statement (i : Instr) : Prop := fitsRow i (encode i) = true

theorem nop : Statement .nop := by unfold Statement; decide

theorem setaddr (a : Addr) : Statement (.setaddr a) := by revert a; unfold Statement; decide

theorem write (b : Byte) : Statement (.write b) := by revert b; unfold Statement; decide

theorem read (n : BitVec 12) : Statement (.read n) := by
  have h : (3#4 ++ n : CmdWord) &&& 0xF000#16 = 0x3000#16 := high_field _ _
  exact decide_eq_true (masked_of_bits _ _ _ h)

theorem poprx : Statement .poprx := by unfold Statement; decide

theorem rdreg (r : BitVec 4) : Statement (.rdreg r) := by revert r; unfold Statement; decide

theorem setcfg (ackpol ignack ovfpol : Bool) : Statement (.setcfg ackpol ignack ovfpol) := by revert ackpol ignack ovfpol; unfold Statement; decide

theorem clrsts (m : BitVec 4) : Statement (.clrsts m) := by revert m; unfold Statement; decide

theorem reserved (rest : BitVec 15) : Statement (.reserved rest) := by
  have h : (1#1 ++ rest : CmdWord) &&& 0x8000#16 = 0x8000#16 := high_field _ _
  exact decide_eq_true (masked_of_bits _ _ _ h)

theorem illegal (w : CmdWord) : Statement (.illegal w) := by simp [Statement, fitsRow, tableMatchMask]

theorem tickConsume (wf : Bool) (st : StateCode) (ph : Phase) : Statement (.tickConsume wf st ph) := by revert wf st ph; unfold Statement; decide

theorem tickReserved1011 (wf : Bool) (c : BitVec 1) (ph : Phase) : Statement (.tickReserved1011 wf c ph) := by revert wf c ph; unfold Statement; decide

theorem tickReserved1215 (wf : Bool) (c : BitVec 2) (ph : Phase) : Statement (.tickReserved1215 wf c ph) := by revert wf c ph; unfold Statement; decide

theorem tickP0 (wf : Bool) (st : StateCode) : Statement (.tickP0 wf st) := by revert wf st; unfold Statement; decide

theorem tickP2 (wf : Bool) (st : StateCode) : Statement (.tickP2 wf st) := by revert wf st; unfold Statement; decide

theorem tickP3Pause (st : StateCode) : Statement (.tickP3Pause st) := by revert st; unfold Statement; decide

theorem idleP1 (wf : Bool) : Statement (.idleP1 wf) := by revert wf; unfold Statement; decide

theorem startP1 (wf : Bool) : Statement (.startP1 wf) := by revert wf; unfold Statement; decide

theorem saddrP1 (wf : Bool) : Statement (.saddrP1 wf) := by revert wf; unfold Statement; decide

theorem srwP1 (wf : Bool) : Statement (.srwP1 wf) := by revert wf; unfold Statement; decide

theorem wackP1 (wf : Bool) : Statement (.wackP1 wf) := by revert wf; unfold Statement; decide

theorem sdataP1 (wf : Bool) : Statement (.sdataP1 wf) := by revert wf; unfold Statement; decide

theorem rdataP1 (wf : Bool) : Statement (.rdataP1 wf) := by revert wf; unfold Statement; decide

theorem sackP1 (wf : Bool) : Statement (.sackP1 wf) := by revert wf; unfold Statement; decide

theorem snackP1 (wf : Bool) : Statement (.snackP1 wf) := by revert wf; unfold Statement; decide

theorem stopP1 (wf : Bool) : Statement (.stopP1 wf) := by revert wf; unfold Statement; decide

theorem idleP3 : Statement .idleP3 := by unfold Statement; decide

theorem startP3 : Statement .startP3 := by unfold Statement; decide

theorem saddrP3 : Statement .saddrP3 := by unfold Statement; decide

theorem srwP3 : Statement .srwP3 := by unfold Statement; decide

theorem wackP3 : Statement .wackP3 := by unfold Statement; decide

theorem sdataP3 : Statement .sdataP3 := by unfold Statement; decide

theorem rdataP3 : Statement .rdataP3 := by unfold Statement; decide

theorem sackP3 : Statement .sackP3 := by unfold Statement; decide

theorem snackP3 : Statement .snackP3 := by unfold Statement; decide

theorem stopP3 : Statement .stopP3 := by unfold Statement; decide

end Laws.RowBits

end Sys2Proof
end

