-- ==== Sys2Proof/Laws/Runs.lean ====
section
/-! SUPPORT. The laws of doing a step several times. -/

namespace Sys2Proof.Machine

@[simp] theorem repeatStep_zero (f : State → Host.Outcome State Fault Refusal) (s : State) :
    repeatStep f 0 s = .next s := rfl

/-- One step off the front. -/
theorem repeatStep_succ {f : State → Host.Outcome State Fault Refusal} {s t : State} (n : Nat) (h : f s = .next t) :
    repeatStep f (n + 1) s = repeatStep f n t := by
  simp only [repeatStep, h]

/-- A run is the second part of it from where the first part ends. -/
theorem repeatStep_add {f : State → Host.Outcome State Fault Refusal} {m : Nat} :
    ∀ {s t : State} (n : Nat), repeatStep f m s = .next t → repeatStep f (m + n) s = repeatStep f n t := by
  induction m with
  | zero => intro s t n h; cases h; rw [Nat.zero_add]
  | succ m ih =>
    intro s t n h
    rw [Nat.add_right_comm]
    cases hs : f s with
    | next u =>
      rw [repeatStep_succ m hs] at h
      rw [repeatStep_succ (m + n) hs]
      exact ih n h
    | fault x => simp [repeatStep, hs] at h
    | refused r => simp [repeatStep, hs] at h

/-- What every step keeps, a run keeps. -/
theorem repeatStep_keeps {f : State → Host.Outcome State Fault Refusal} {P : State → Prop}
    (h : ∀ s t, P s → f s = .next t → P t) (n : Nat) : ∀ s t, P s → repeatStep f n s = .next t → P t := by
  induction n with
  | zero => intro s t hp e; cases e; exact hp
  | succ n ih =>
    intro s t hp e
    cases hs : f s with
    | next u => exact ih u t (h s u hp hs) (by rw [← e, repeatStep_succ n hs])
    | fault x => simp [repeatStep, hs] at e
    | refused r => simp [repeatStep, hs] at e

end Sys2Proof.Machine
end

