-- ==== Sys2Proof/Tests/Slice0.lean ====
section
/-! SUPPORT. Tests. Expected results come from spec/95_test_vectors.md (the vector's id is in the comment), from the
examples of the rules, or from words and keys written out bit by bit from 30_encoding.md R81 and R87. The witnesses at the
end show, for each statement with hypotheses, a state and operands that meet them. -/

namespace Sys2Proof.Tests

open Sys2Proof.Machine

/-! ### Decoding, one word for every constructor -/

theorem test_decode_nop : decode (.cmd 0b0000000000000000#16) = .nop := by decide
theorem test_decode_setaddr : decode (.cmd 0b0001000001111111#16) = .setaddr 0x7F#7 := by decide
theorem test_decode_write : decode (.cmd 0b0010000010100101#16) = .write 0xA5#8 := by decide
theorem test_decode_read : decode (.cmd 0b0011111111111111#16) = .read 0xFFF#12 := by decide
theorem test_decode_poprx : decode (.cmd 0b0100000000000000#16) = .poprx := by decide
theorem test_decode_rdreg : decode (.cmd 0b0101000000000110#16) = .rdreg 6#4 := by decide
theorem test_decode_setcfg : decode (.cmd 0b0110000000000100#16) = .setcfg false false true := by decide
theorem test_decode_clrsts : decode (.cmd 0b0111000000001000#16) = .clrsts 8#4 := by decide
theorem test_decode_reserved : decode (.cmd 0b1111111111111111#16) = .reserved 0x7FFF#15 := by decide
theorem test_decode_illegal : decode (.cmd 0b0001000010000000#16) = .illegal 0x1080#16 := by decide
theorem test_decode_tickConsume : decode (.key 0b11100110#8) = .tickConsume true 9#4 2#2 := by decide
theorem test_decode_tickReserved1011 : decode (.key 0b01101110#8) = .tickReserved1011 true 1#1 2#2 := by decide
theorem test_decode_tickReserved1215 : decode (.key 0b00111011#8) = .tickReserved1215 false 2#2 3#2 := by decide
theorem test_decode_tickP0 : decode (.key 0b01010000#8) = .tickP0 true 4#4 := by decide
theorem test_decode_tickP2 : decode (.key 0b00001010#8) = .tickP2 false 2#4 := by decide
theorem test_decode_tickP3Pause : decode (.key 0b01100111#8) = .tickP3Pause 9#4 := by decide
theorem test_decode_idleP1 : decode (.key 0b00000001#8) = .idleP1 false := by decide
theorem test_decode_startP1 : decode (.key 0b01000101#8) = .startP1 true := by decide
theorem test_decode_saddrP1 : decode (.key 0b00001001#8) = .saddrP1 false := by decide
theorem test_decode_srwP1 : decode (.key 0b00001101#8) = .srwP1 false := by decide
theorem test_decode_wackP1 : decode (.key 0b01010001#8) = .wackP1 true := by decide
theorem test_decode_sdataP1 : decode (.key 0b00010101#8) = .sdataP1 false := by decide
theorem test_decode_rdataP1 : decode (.key 0b00011001#8) = .rdataP1 false := by decide
theorem test_decode_sackP1 : decode (.key 0b00011101#8) = .sackP1 false := by decide
theorem test_decode_snackP1 : decode (.key 0b00100001#8) = .snackP1 false := by decide
theorem test_decode_stopP1 : decode (.key 0b00100101#8) = .stopP1 false := by decide
theorem test_decode_idleP3 : decode (.key 0b00000011#8) = .idleP3 := by decide
theorem test_decode_startP3 : decode (.key 0b00000111#8) = .startP3 := by decide
theorem test_decode_saddrP3 : decode (.key 0b00001011#8) = .saddrP3 := by decide
theorem test_decode_srwP3 : decode (.key 0b00001111#8) = .srwP3 := by decide
theorem test_decode_wackP3 : decode (.key 0b00010011#8) = .wackP3 := by decide
theorem test_decode_sdataP3 : decode (.key 0b00010111#8) = .sdataP3 := by decide
theorem test_decode_rdataP3 : decode (.key 0b00011011#8) = .rdataP3 := by decide
theorem test_decode_sackP3 : decode (.key 0b00011111#8) = .sackP3 := by decide
theorem test_decode_snackP3 : decode (.key 0b00100011#8) = .snackP3 := by decide
theorem test_decode_stopP3 : decode (.key 0b00100111#8) = .stopP3 := by decide

/-- The widths the table does not have are refused by name. -/
theorem test_decode_width : codeOfTableWord 12 5 = .error (.noSuchWidth 12) ∧ decodeTableWord 12 5 = none := by decide
theorem test_decode_too_wide : decodeTableWord 8 256 = none := by decide

/-! ### Ill-formed terms, one for each check of `Instr.wf` -/

theorem smoke_illegal_of_legal_word : (Instr.illegal 0x107F#16).wf = false := by decide
theorem smoke_illegal_of_reserved_opcode : (Instr.illegal 0x8001#16).wf = false := by decide
theorem smoke_tickP0_reserved_code : (Instr.tickP0 false 10#4).wf = false := by decide
theorem smoke_tickP2_reserved_code : (Instr.tickP2 true 15#4).wf = false := by decide
theorem smoke_tickP3Pause_reserved_code : (Instr.tickP3Pause 12#4).wf = false := by decide
theorem smoke_well_formed_neighbours :
    (Instr.illegal 0x1080#16).wf = true ∧ (Instr.tickP0 false 9#4).wf = true := by decide

/-! ### The bench: the parameters spec/95_test_vectors.md assumes -/

/-- START_WAIT = STOP_WAIT = 0, both capacities 16, RETRY_LIMIT = 0. -/
def benchParams : Params := ⟨16, 16, 0#16, 0#16, 0⟩

/-- The block out of reset with those parameters. -/
def bench : State := boot benchParams [] [] none 0

/-- The bench at a control point. -/
def benchAt (p : ProtoState) (ph : Phase) : State := { bench with protocolState := p.code, subPhase := ph }

/-- A field of the next state. -/
def after {α : Type} (o : Host.Outcome State Fault Refusal) (f : State → α) : Option α :=
  match o with
  | .next t => some (f t)
  | .fault _ => none
  | .refused _ => none

/-- The fault of a step. -/
def faultOf (o : Host.Outcome State Fault Refusal) : Option Fault :=
  match o with
  | .fault f => some f
  | .next _ => none
  | .refused _ => none

/-- One command on a state. -/
def cmd (w : CmdWord) (s : State) : Host.Outcome State Fault Refusal := arrive (.command w) s

/-- One tick on a state. -/
def tick (s : State) : Host.Outcome State Fault Refusal := arrive .tick s

/-- A response with ok = 1 and ok = 0. -/
def yes (d : CmdWord) : Option Response := some ⟨true, d⟩
def no : Option Response := some ⟨false, 0#16⟩

/-! ### Host commands (L2.1) -/

/-- V-H1. -/
theorem test_nop : after (cmd 0x0000#16 bench) (·.rsp) = some (yes 0#16) := by decide
/-- V-H5: the address in flight is kept. -/
theorem test_setaddr_in_flight :
    after (cmd 0x1023#16 { benchAt .sendAddress 1#2 with targetAddress := 0x50#7, txAddress := 0x50#7 })
      (fun t => (t.targetAddress, t.txAddress)) = some (0x23#7, 0x50#7) := by decide
/-- V-W3, the third WRITE. -/
theorem test_write_overwrites :
    after (cmd 0x2003#16 { bench with params := { benchParams with outqCap := 2 }, outQ := [1#8, 2#8] })
      (fun t => (t.outQ, t.stsTxOvf, t.rsp)) = some ([2#8, 3#8], true, yes 0#16) := by decide
/-- V-W4, the third WRITE. -/
theorem test_write_rejects :
    after (cmd 0x2003#16
        { bench with params := { benchParams with outqCap := 2 }, cfgOvfPolicy := false, outQ := [1#8, 2#8] })
      (fun t => (t.outQ, t.stsTxOvf, t.rsp)) = some ([1#8, 2#8], true, no) := by decide
/-- V-R3. -/
theorem test_read_to_the_top :
    after (cmd 0x3FFF#16 { bench with pendingReceive := 0xF000#16 }) (fun t => (t.pendingReceive, t.rsp))
      = some (0xFFFF#16, yes 0#16) := by decide
/-- V-R4. -/
theorem test_read_past_the_top :
    after (cmd 0x3FFF#16 { bench with pendingReceive := 0xF001#16 }) (fun t => (t.pendingReceive, t.rsp))
      = some (0xF001#16, no) := by decide
/-- V-P2. -/
theorem test_poprx_zero_byte :
    after (cmd 0x4000#16 { bench with inQ := [0x00#8, 0x7E#8] }) (fun t => (t.inQ, t.rsp))
      = some ([0x7E#8], yes 0x8000#16) := by decide
/-- V-P1. -/
theorem test_poprx_empty : after (cmd 0x4000#16 bench) (·.rsp) = some (yes 0#16) := by decide
/-- V-G5. -/
theorem test_rdreg_status :
    after (cmd 0x5000#16 { benchAt .waitForAcknowledge 3#2 with waitFlag := true, stsNack := true, stsTxOvf := true })
      (·.rsp) = some (yes 0x05F4#16) := by decide
/-- V-G6. -/
theorem test_rdreg_ctx :
    after (cmd 0x5006#16 { bench with txAddress := 0x3C#7, bitIndex := 5#3, resend := true, ackKind := true })
      (·.rsp) = some (yes 0x1D3C#16) := by decide
/-- V-C4: accepted in Idle while the extra wait runs. -/
theorem test_setcfg_idle :
    after (cmd 0x6001#16 { bench with extraWait := 3#16 }) configWord = some 0x0001#16 := by decide
/-- V-C2. -/
theorem test_setcfg_busy :
    after (cmd 0x6001#16 (benchAt .sendAddress 0#2)) (fun t => (configWord t, t.rsp)) = some (0x0004#16, no) := by decide
/-- V-S2. -/
theorem test_clrsts :
    after (cmd 0x7004#16 { bench with stsTxOvf := true, stsNack := true }) statusWord = some 0x0100#16 := by decide
/-- V-X1 and V-X3. -/
theorem test_reserved : after (cmd 0x8000#16 bench) (fun t => (t.rsp, t.outQ)) = some (no, []) := by decide
theorem test_illegal : after (cmd 0x0800#16 bench) (·.rsp) = some no := by decide

/-! ### Tick sequencer (L2.2) -/

/-- V-T2. -/
theorem test_consume :
    after (tick { benchAt .sendAddress 0#2 with extraWait := 1#16 }) (fun t => (t.extraWait, t.subPhase, t.sclLvl))
      = some (0#16, 0#2, true) := by decide
/-- V-F6 and its neighbour of the other row. -/
theorem test_reserved_code_12 :
    faultOf (tick { bench with protocolState := 12#4, subPhase := 1#2 }) = some .reservedState := by decide
theorem test_reserved_code_11 :
    faultOf (tick { bench with protocolState := 11#4, subPhase := 0#2 }) = some .reservedState := by decide
/-- V-T4, V-T3. -/
theorem test_p0 : after (tick (benchAt .sendAddress 0#2)) (fun t => (t.sclLvl, t.subPhase)) = some (false, 1#2) := by decide
theorem test_p0_idle : after (tick (benchAt .idle 0#2)) (fun t => (t.sclLvl, t.subPhase)) = some (true, 1#2) := by decide
/-- V-T5. -/
theorem test_p2 :
    after (tick { benchAt .sendAddress 2#2 with sclLvl := false }) (fun t => (t.sclLvl, t.subPhase))
      = some (true, 3#2) := by decide
/-- V-T6. -/
theorem test_p3_pause :
    after (tick { benchAt .waitForAcknowledge 3#2 with waitFlag := true, pendingState := some .sendData, sdaDir := false })
      (fun t => (t.waitFlag, t.protocolState, t.pendingState, t.subPhase))
      = some (false, 4#4, some .sendData, 0#2) := by decide

/-! ### Sub-phase 1 (L2.3) -/

/-- V-I2, V-I1. -/
theorem test_idle_begins :
    after (tick { benchAt .idle 1#2 with pendingReceive := 1#16, targetAddress := 0x3C#7 })
      (fun t => (t.protocolState, t.txAddress, t.subPhase)) = some (1#4, 0x3C#7, 2#2) := by decide
theorem test_idle_stays :
    after (tick (benchAt .idle 1#2)) (fun t => (t.protocolState, t.subPhase)) = some (0#4, 2#2) := by decide
/-- R141. -/
theorem test_start_p1 :
    after (tick (benchAt .start 1#2)) (fun t => (t.protocolState, t.subPhase, t.sdaLvl)) = some (1#4, 2#2, true) := by decide
/-- V-AD1, V-AD2. -/
theorem test_saddr_first :
    after (tick { benchAt .sendAddress 1#2 with txAddress := 0x50#7, sdaLvl := false })
      (fun t => (t.sdaDir, t.sdaLvl, t.bitIndex)) = some (true, true, 1#3) := by decide
theorem test_saddr_last :
    after (tick { benchAt .sendAddress 1#2 with txAddress := 0x01#7, bitIndex := 6#3, sdaLvl := false })
      (fun t => (t.sdaLvl, t.bitIndex, t.protocolState)) = some (true, 0#3, 3#4) := by decide
/-- V-RW1, V-RW2. -/
theorem test_srw_write :
    after (tick { benchAt .sendReadWriteBit 1#2 with outQ := [7#8], pendingReceive := 2#16, ackKind := true })
      (fun t => (t.sdaLvl, t.pendingState, t.ackKind, t.waitFlag, t.protocolState))
      = some (false, some .sendData, false, true, 4#4) := by decide
theorem test_srw_read :
    after (tick { benchAt .sendReadWriteBit 1#2 with pendingReceive := 2#16, sdaLvl := false })
      (fun t => (t.sdaLvl, t.pendingState, t.waitFlag)) = some (true, some .receiveData, true) := by decide
/-- V-WA1. -/
theorem test_wack_releases :
    after (tick { benchAt .waitForAcknowledge 1#2 with sdaLvl := false }) (fun t => (t.sdaDir, t.sdaLvl))
      = some (false, false) := by decide
/-- V-D1, V-D4. -/
theorem test_sdata_first :
    (after (tick { benchAt .sendData 1#2 with outQ := [0x80#8, 0x01#8], sdaLvl := false })
      (fun t => (t.shiftByte, t.outQ, t.sdaLvl, t.bitIndex)) = some (0x80#8, [0x01#8], true, 1#3))
    ∧ (after (tick { benchAt .sendData 1#2 with resend := true, shiftByte := 0x41#8, outQ := [0x42#8] })
      (fun t => (t.resend, t.outQ, t.sdaLvl, t.bitIndex)) = some (false, [0x42#8], false, 1#3)) := by decide
theorem test_sdata_last :
    after (tick { benchAt .sendData 1#2 with bitIndex := 7#3, shiftByte := 0x81#8 })
      (fun t => (t.sdaLvl, t.waitFlag, t.ackKind, t.pendingState, t.protocolState))
      = some (true, true, true, some .stop, 4#4) := by decide
/-- V-RD1, V-RD2. -/
theorem test_rdata_p1_first :
    after (tick { benchAt .receiveData 1#2 with shiftByte := 0x5A#8 }) (fun t => (t.sdaDir, t.shiftByte))
      = some (false, 0x00#8) := by decide
theorem test_rdata_p1_later :
    after (tick { benchAt .receiveData 1#2 with bitIndex := 3#3, shiftByte := 0x80#8 })
      (fun t => (t.sdaDir, t.shiftByte, t.subPhase)) = some (true, 0x80#8, 2#2) := by decide
/-- V-SA1. -/
theorem test_sack :
    after (tick { benchAt .sendAcknowledge 1#2 with pendingState := some .receiveData })
      (fun t => (t.sdaLvl, t.waitFlag, t.protocolState, t.pendingState)) = some (false, true, 6#4, none) := by decide
/-- V-SN1. -/
theorem test_snack :
    after (tick { benchAt .sendNoAcknowledge 1#2 with pendingState := some .stop, sdaLvl := false })
      (fun t => (t.sdaLvl, t.waitFlag, t.protocolState, t.pendingState)) = some (true, true, 9#4, none) := by decide
/-- V-SP1. -/
theorem test_stop_p1 :
    after (tick { benchAt .stop 1#2 with params := { benchParams with stopWait := 5#16 } })
      (fun t => (t.sdaLvl, t.extraWait, t.subPhase)) = some (false, 5#16, 2#2) := by decide

/-! ### Sub-phase 3 (L2.4) -/

/-- V-T8, V-N1 and R164: nothing but the wrap of the sub-phase. -/
theorem test_idle_p3 : after (tick (benchAt .idle 3#2)) (fun t => (t.protocolState, t.subPhase)) = some (0#4, 0#2) := by decide
theorem test_saddr_p3 : after (tick (benchAt .sendAddress 3#2)) (fun t => (t.protocolState, t.subPhase)) = some (2#4, 0#2) := by
  decide
theorem test_srw_p3 :
    after (tick (benchAt .sendReadWriteBit 3#2)) (fun t => (t.protocolState, t.subPhase)) = some (3#4, 0#2) := by decide
theorem test_sdata_p3 :
    after (tick { benchAt .sendData 3#2 with bitIndex := 4#3 }) (fun t => (t.protocolState, t.bitIndex, t.subPhase))
      = some (5#4, 4#3, 0#2) := by decide
theorem test_sack_p3 :
    after (tick (benchAt .sendAcknowledge 3#2)) (fun t => (t.protocolState, t.subPhase)) = some (7#4, 0#2) := by decide
theorem test_snack_p3 :
    after (tick (benchAt .sendNoAcknowledge 3#2)) (fun t => (t.protocolState, t.subPhase)) = some (8#4, 0#2) := by decide
/-- V-ST1, V-ST2. -/
theorem test_start_edge :
    after (tick { benchAt .start 3#2 with outQ := [1#8], params := { benchParams with startWait := 3#16 } })
      (fun t => (t.sdaLvl, t.extraWait, t.protocolState)) = some (false, 3#16, 2#4) := by decide
theorem test_start_without_work :
    after (tick (benchAt .start 3#2)) (fun t => (t.sdaLvl, t.protocolState)) = some (true, 0#4) := by decide
/-- V-SP2. -/
theorem test_stop_edge :
    after (tick { benchAt .stop 3#2 with sdaLvl := false }) (fun t => (t.sdaLvl, t.protocolState))
      = some (true, 0#4) := by decide
/-- V-RD7, V-RD6. -/
theorem test_rdata_bit :
    after (tick { benchAt .receiveData 3#2 with bitIndex := 2#3, shiftByte := 0xFF#8, sdaDir := false, peerDraws := [false] })
      (fun t => (t.shiftByte, t.bitIndex)) = some (0xDF#8, 3#3) := by decide
/-- V-RD6, V-RD4. -/
theorem test_rdata_byte :
    (after (tick { benchAt .receiveData 3#2 with
        bitIndex := 7#3, pendingReceive := 1#16, params := { benchParams with inqCap := 2 }, inQ := [1#8, 2#8],
        sdaDir := false, peerDraws := [false] })
      (fun t => (t.inQ, t.stsRxOvf, t.pendingReceive, t.protocolState))
      = some ([2#8, 0#8], true, 0#16, 8#4))
    ∧ (after (tick { benchAt .receiveData 3#2 with
        bitIndex := 7#3, shiftByte := 0xC2#8, pendingReceive := 2#16, sdaDir := false, peerDraws := [true] })
      (fun t => (t.inQ, t.pendingReceive, t.bitIndex, t.protocolState, t.pendingState))
      = some ([0xC3#8], 1#16, 0#3, 7#4, some .receiveData)) := by decide

/-! ### Acknowledge policies (L2.5) -/

/-- A state in the acknowledge slot with one draw. -/
def slot (d : Bool) : State :=
  { benchAt .waitForAcknowledge 3#2 with pendingState := some .sendData, sdaDir := false, peerDraws := [d] }

/-- V-A1, V-A3, V-A4, V-A5, V-A6. -/
theorem test_ack_missed :
    (after (tick { slot true with ackKind := true, outQ := [1#8, 2#8], pendingReceive := 4#16 })
      (fun t => (t.stsNack, t.outQ, t.pendingReceive, t.pendingState, t.protocolState))
      = some (true, [], 0#16, none, 9#4))
    ∧ (after (tick { slot true with cfgAckPolicy := true, outQ := [1#8], pendingReceive := 2#16 })
      (fun t => (t.stsNack, t.protocolState, t.outQ, t.pendingReceive, t.resend))
      = some (true, 9#4, [1#8], 2#16, false))
    ∧ (after (tick { slot true with cfgAckPolicy := true, ackKind := true, pendingState := some .stop, shiftByte := 0x99#8 })
      (fun t => (t.stsNack, t.resend, t.protocolState, t.pendingState, t.shiftByte))
      = some (true, true, 5#4, none, 0x99#8))
    ∧ (after (tick { slot true with
        cfgAckPolicy := true, ackKind := true, retryCount := 1#16, outQ := [5#8],
        params := { benchParams with retryLimit := 2 } })
      (fun t => (t.stsNack, t.stsBusTimeout, t.retryCount, t.outQ, t.protocolState))
      = some (true, true, 0#16, [], 9#4))
    ∧ (after (tick { slot true with
        cfgAckPolicy := true, ackKind := true, outQ := [5#8], params := { benchParams with retryLimit := 2 } })
      (fun t => (t.retryCount, t.resend, t.stsBusTimeout, t.protocolState)) = some (1#16, true, false, 5#4)) := by
  refine ⟨?_, ?_, ?_, ?_, ?_⟩ <;> decide
/-- V-A2, V-A7. -/
theorem test_ack_taken :
    (after (tick { slot true with cfgIgnoreAck := true, outQ := [1#8] }) (fun t => (t.stsNack, t.protocolState, t.pendingState))
      = some (false, 5#4, none))
    ∧ (after (tick { slot false with
        cfgAckPolicy := true, retryCount := 1#16, params := { benchParams with retryLimit := 2 } })
      (fun t => (t.retryCount, t.protocolState, t.stsNack)) = some (0#16, 5#4, false)) := by decide

/-! ### Model faults (L2.6) -/

/-- V-F1 to V-F5. -/
theorem test_model_faults :
    (faultOf (tick (benchAt .sendData 1#2)) = some .outboundUnderflow)
    ∧ (faultOf (tick (benchAt .waitForAcknowledge 3#2)) = some .pendingStateUndefined)
    ∧ (faultOf (tick (benchAt .receiveData 3#2)) = some .readWhileDriving)
    ∧ (faultOf (tick { benchAt .receiveData 3#2 with bitIndex := 7#3, sdaDir := false }) = some .receiveUnderflow)
    ∧ (faultOf (tick (benchAt .sendAcknowledge 1#2)) = some .pendingStateUndefined) := by decide

/-! ### The assembler (30_encoding.md R90, R91) -/

theorem test_asm_setaddr :
    (readLine ['S', 'E', 'T', 'A', 'D', 'D', 'R', ' ', '0', 'x', '5', '0']).bind assembleWord = some 0x1050#16 := by decide
theorem test_asm_setcfg_keywords :
    (readLine ['S', 'E', 'T', 'C', 'F', 'G', ' ', 'i', 'g', 'n', 'a', 'c', 'k', ',', 'o', 'v', 'e', 'r', 'w', 'r', 'i',
      't', 'e']).bind assembleWord = some 0x6006#16 := by decide
theorem test_asm_rdreg_name :
    (readLine ['R', 'D', 'R', 'E', 'G', ' ', 'R', 'X', 'L', 'E', 'N']).bind assembleWord = some 0x5004#16 := by decide
/-- A line of program L3-6 of 95_test_vectors.md, with its comment. -/
theorem test_asm_comment :
    (readLine ['R', 'D', 'R', 'E', 'G', ' ', 'T', 'X', 'L', 'E', 'N', ' ', ';', ' ', '-', '>']).bind assembleWord
      = some 0x5003#16 := by decide
/-- The model's choice (log entry 12). -/
theorem test_asm_bare_setcfg :
    (readLine ['S', 'E', 'T', 'C', 'F', 'G']).bind assembleWord = some 0x6000#16 := by decide
/-- The directives of R90, and a line that is a comment only. -/
theorem test_asm_directives :
    readProgram [[';', ' ', 'x'], ['P', 'E', 'E', 'R', ' ', '0', ' ', '1'], ['T', 'I', 'C', 'K', 'S', ' ', '4', '0', '0'],
      ['P', 'E', 'E', 'R'], ['N', 'O', 'P']]
      = some [.peer [false, true], .ticks 400, .peer [], .line .nop] := by decide
theorem test_asm_out_of_range : assembleWord (.setaddr 0x80) = none := by decide
theorem test_asm_long_read :
    expandCall (.read 5000) = [.read 0xFFF, .read 905] := by decide

/-! ### Witnesses -/

/-- A state that meets the invariant: Idle at sub-phase 1 with one byte to send and a peer that acknowledges. -/
def readyToWrite : State := { benchAt .idle 1#2 with outQ := [0xA5#8], peerRest := some false }

theorem readyToWrite_inv : Inv readyToWrite := by
  refine ⟨?_, ?_, ?_, ?_, ?_, ?_, ?_, ?_, ?_, ?_, ?_, ?_, ?_, ?_, ?_, ?_, ?_⟩ <;> decide

/-- A state about to emit START and one about to emit STOP, both meeting the invariant. -/
def beforeStart : State := { benchAt .start 3#2 with outQ := [0xA5#8] }
def beforeStop : State := { benchAt .stop 3#2 with sdaLvl := false }

theorem beforeStart_inv : Inv beforeStart := by
  refine ⟨?_, ?_, ?_, ?_, ?_, ?_, ?_, ?_, ?_, ?_, ?_, ?_, ?_, ?_, ?_, ?_, ?_⟩ <;> decide

theorem beforeStop_inv : Inv beforeStop := by
  refine ⟨?_, ?_, ?_, ?_, ?_, ?_, ?_, ?_, ?_, ?_, ?_, ?_, ?_, ?_, ?_, ?_, ?_⟩ <;> decide

theorem witness_EncodeThenDecode :
    (Instr.tickP0 true 9#4).wf = true ∧ (Instr.illegal 0x0001#16).wf = true ∧ (Instr.read 0xFFF#12).wf = true := by decide
theorem witness_FirstMatchingRowSelects :
    isCommand (.tickP0 false 8#4) = false ∧ fitsRow (.tickP0 false 8#4) (.key 0x28#8) = true
      ∧ isCommand .idleP3 = false ∧ fitsRow .idleP3 (.key 0x03#8) = true := by decide
theorem witness_IllegalWordsRefused :
    8 ≤ (opField 0x8000#16).toNat ∧ 0x1080#16 &&& mustBeZero (opField 0x1080#16) ≠ 0#16
      ∧ ¬ (8 ≤ (opField 0x7000#16).toNat ∨ 0x7000#16 &&& mustBeZero (opField 0x7000#16) ≠ 0#16) := by decide
theorem witness_AssemblerRefusesRatherThanTruncates :
    assembleWord (.setaddr 0x7F) = some 0x107F#16 ∧ assembleWord .clrstsAll = some 0x700F#16
      ∧ [CfgWord.ignack, .overwrite].Nodup ∧ ¬(CfgWord.retry ∈ [CfgWord.ignack, .overwrite] ∧ .abort ∈ [CfgWord.ignack, .overwrite])
      ∧ ¬(CfgWord.reject ∈ [CfgWord.ignack, .overwrite] ∧ .overwrite ∈ [CfgWord.ignack, .overwrite]) := by decide
theorem witness_StepRunsDecodedInstruction :
    ({ bench with input := [.command 0x1050#16] } : State).input = .command 0x1050#16 :: []
      ∧ ({ bench with input := [.tick] } : State).input = .tick :: [] := by decide
theorem witness_StepTakesFreeArrival : bench.input = [] := by decide
theorem witness_ResetInputRestoresResetValues :
    ({ benchAt .stop 2#2 with input := [.rst, .tick] } : State).input = .rst :: [.tick] := by decide
theorem witness_TickComposesSequencer :
    (benchAt .stop 3#2).protocolState = ProtoState.stop.code ∧ bench.protocolState = ProtoState.idle.code := by decide
theorem witness_ConsumedTickOnlyDecrements :
    ({ bench with protocolState := 15#4, extraWait := 1#16 } : State).extraWait ≠ 0#16
      ∧ ({ bench with extraWait := 0xFFFF#16 } : State).extraWait ≠ 0#16 ∧ bench.extraWait = 0#16 := by decide
theorem witness_ArmedWaitConsumesExactly :
    2 ≤ ({ benchAt .sendAddress 0#2 with extraWait := 2#16 } : State).extraWait.toNat := by decide
theorem witness_SubPhaseAdvancesByOne :
    (benchAt .idle 3#2).extraWait = 0#16 ∧ after (arrive .tick (benchAt .idle 3#2)) (·.subPhase) = some 0#2
      ∧ after (arrive (.command 0x2001#16) bench) (·.subPhase) = some 0#2 := by decide
theorem witness_ReadAddsOrRefuses :
    0xF000 + (0xFFF#12 : BitVec 12).toNat ≤ 0xFFFF ∧ 0xFFFF < 0xF001 + (0xFFF#12 : BitVec 12).toNat
      ∧ (0xF000#16 : Count).toNat = 0xF000 ∧ (0xF001#16 : Count).toNat = 0xF001 := by decide
theorem witness_PoprxTakesOldestByte :
    bench.inQ = [] ∧ ({ bench with inQ := [0xFF#8, 1#8] } : State).inQ = 0xFF#8 :: [1#8] := by decide
theorem witness_RdregCounts : WithinCapacity { bench with outQ := List.replicate 16 0#8 } := by decide
theorem witness_RdregReservedNumbersRefused : 8 ≤ (8#4 : BitVec 4).toNat ∧ 8 ≤ (15#4 : BitVec 4).toNat := by decide
theorem witness_SetcfgOnlyInIdle :
    bench.protocolState = ProtoState.idle.code ∧ (benchAt .start 2#2).protocolState ≠ ProtoState.idle.code := by decide
theorem witness_CommandsTouchNoBusState : isCommand (.write 1#8) = true ∧ isCommand (.illegal 1#16) = true := by decide
theorem witness_ReservedCodesFault :
    10 ≤ ({ bench with protocolState := 10#4 } : State).protocolState.toNat ∧ bench.extraWait = 0#16 := by decide
theorem witness_ClockEdgesSkippedInIdle :
    (benchAt .idle 0#2).protocolState = ProtoState.idle.code ∧ (benchAt .stop 0#2).protocolState ≠ ProtoState.idle.code := by
  decide
theorem witness_IdleStartsWhenWorkPending :
    ({ bench with outQ := [1#8] } : State).outQ ≠ [] ∧ 0 < ({ bench with pendingReceive := 1#16 } : State).pendingReceive.toNat
      ∧ bench.outQ = [] ∧ bench.pendingReceive = 0#16 := by decide
theorem witness_NoActionRowsOnlyAdvance : (Instr.startP1 false) = .startP1 false ∧ Instr.snackP3 = .snackP3 := by decide
theorem witness_AddressBitsMsbFirst :
    bench.bitIndex.toNat < 6 ∧ ({ bench with bitIndex := 5#3 } : State).bitIndex.toNat < 6
      ∧ ({ bench with bitIndex := 6#3 } : State).bitIndex = 6#3 := by decide
theorem witness_AddressBitSevenIsFree : ({ bench with bitIndex := 7#3 } : State).bitIndex = 7#3 := by decide
theorem witness_DirectionBitOpensAddressSlot :
    ({ bench with outQ := [1#8] } : State).outQ ≠ [] ∧ bench.outQ = [] := by decide
theorem witness_SdaReleasedForPeer :
    bench.bitIndex = 0#3 ∧ ({ bench with bitIndex := 7#3 } : State).bitIndex ≠ 0#3 := by decide
theorem witness_SendDataShiftsMsbFirst :
    bench.bitIndex = 0#3 ∧ ({ bench with resend := true } : State).resend = true ∧ bench.resend = false
      ∧ ({ bench with outQ := [0x80#8] } : State).outQ = 0x80#8 :: [] ∧ bench.outQ = []
      ∧ 1 ≤ ({ bench with bitIndex := 1#3 } : State).bitIndex.toNat
      ∧ ({ bench with bitIndex := 6#3 } : State).bitIndex.toNat ≤ 6
      ∧ ({ bench with bitIndex := 7#3 } : State).bitIndex = 7#3 := by decide
theorem witness_MasterAckAndNack :
    ({ bench with pendingState := some .receiveData } : State).pendingState = some .receiveData
      ∧ bench.pendingState = none := by decide
theorem witness_StartAndStopEdges :
    beforeStart.outQ ≠ [] ∧ 0 < ({ bench with pendingReceive := 0xFFFF#16 } : State).pendingReceive.toNat
      ∧ bench.outQ = [] ∧ bench.pendingReceive = 0#16 := by decide
theorem witness_SampleReadsOneDraw :
    bench.sdaDir = true ∧ (slot true).sdaDir = false ∧ (slot true).peerDraws = true :: []
      ∧ ({ slot true with peerDraws := [], peerRest := some false } : State).peerRest = some false
      ∧ ({ slot true with peerDraws := [] } : State).peerDraws = []
      ∧ ({ slot true with peerDraws := [] } : State).peerRest = none := by decide
theorem witness_AckSlotOutcome :
    drawPeer (slot true) = (true, { slot true with peerDraws := [] })
      ∧ (drawPeer (slot false)).1 = false ∧ bench.pendingState = none
      ∧ (slot true).pendingState = some .sendData ∧ (slot true).sdaDir = false
      ∧ ({ slot true with sdaDir := true } : State).sdaDir = true ∧ (slot true).cfgIgnoreAck = false
      ∧ ({ slot true with cfgIgnoreAck := true } : State).cfgIgnoreAck = true ∧ (slot true).cfgAckPolicy = false
      ∧ ({ slot true with cfgAckPolicy := true } : State).cfgAckPolicy = true
      ∧ (slot true).params.retryLimit = 0 := by decide
theorem witness_AckSlotOutcome_limit :
    let u : State :=
      { slot true with cfgAckPolicy := true, retryCount := 1#16, params := { benchParams with retryLimit := 2 } }
    let v : State :=
      { slot true with cfgAckPolicy := true, retryCount := 0#16, params := { benchParams with retryLimit := 2 } }
    u.params.retryLimit ≠ 0 ∧ u.params.retryLimit ≤ u.retryCount.toNat + 1
      ∧ v.retryCount ≠ 0xFFFF#16 ∧ v.retryCount.toNat + 1 < v.params.retryLimit := by decide
theorem witness_AckSlotOutcome_open_count :
    let u : State :=
      { slot true with cfgAckPolicy := true, retryCount := 0xFFFF#16, params := { benchParams with retryLimit := 0x10001 } }
    u.cfgAckPolicy = true ∧ u.retryCount = 0xFFFF#16 ∧ 0x10000 < u.params.retryLimit := by decide
theorem witness_ReceivedBitOutcome :
    let u : State := { benchAt .receiveData 3#2 with sdaDir := false, peerDraws := [true] }
    drawPeer u = (true, { u with peerDraws := [] }) ∧ bench.sdaDir = true ∧ u.sdaDir = false
      ∧ ({ u with bitIndex := 6#3 } : State).bitIndex.toNat < 7 ∧ ({ u with bitIndex := 7#3 } : State).bitIndex = 7#3
      ∧ u.pendingReceive = 0#16 ∧ 0 < ({ u with pendingReceive := 1#16 } : State).pendingReceive.toNat := by decide
theorem witness_PinsWrittenInTheirPhases :
    after (arrive .tick (benchAt .sendAddress 0#2)) (·.sclLvl) = some false
      ∧ after (arrive .tick beforeStart) (·.sdaLvl) = some false
      ∧ after (arrive .tick (benchAt .sendAddress 1#2)) (·.sdaLvl) = some false := by decide
/-- SendData at sub-phase 0 of its second bit, meeting the invariant, and the four ticks after it. -/
def midByte (ph : Phase) (scl : Bool) (i : BitIndex) : State :=
  { benchAt .sendData ph with shiftByte := 0xFF#8, bitIndex := i, sclLvl := scl }

theorem midByte_inv : Inv (midByte 0#2 true 1#3) := by
  refine ⟨?_, ?_, ?_, ?_, ?_, ?_, ?_, ?_, ?_, ?_, ?_, ?_, ?_, ?_, ?_, ?_, ?_⟩ <;> decide

theorem witness_ClockCyclesOncePerBitPeriod :
    arrive .tick (midByte 0#2 true 1#3) = .next (midByte 1#2 false 1#3)
      ∧ arrive .tick (midByte 1#2 false 1#3) = .next (midByte 2#2 false 2#3)
      ∧ arrive .tick (midByte 2#2 false 2#3) = .next (midByte 3#2 true 2#3)
      ∧ arrive .tick (midByte 3#2 true 2#3) = .next (midByte 0#2 true 2#3)
      ∧ (∀ (ph : Phase) (i : BitIndex), (midByte ph true i).extraWait = 0#16
          ∧ (midByte ph true i).protocolState ≠ ProtoState.idle.code) :=
  ⟨rfl, rfl, rfl, rfl, by decide⟩
theorem witness_SdaEdgesUnderHighClockAreStartOrStop :
    Inv beforeStart ∧ Inv beforeStop ∧ beforeStart.sclLvl = true ∧ beforeStop.sclLvl = true
      ∧ after (arrive .tick beforeStart) (fun t => (t.sclLvl, t.sdaLvl)) = some (true, false)
      ∧ after (arrive .tick beforeStop) (fun t => (t.sclLvl, t.sdaLvl)) = some (true, true) :=
  ⟨beforeStart_inv, beforeStop_inv, by decide, by decide, by decide, by decide⟩
theorem witness_TransitionsOnlyAsListed :
    after (arrive .tick beforeStart) (·.protocolState) = some ProtoState.sendAddress.code
      ∧ ProtoState.sendAddress.code ≠ beforeStart.protocolState ∧ PortEvent.tick ≠ .rst
      ∧ after (arrive .tick (slot false)) (·.protocolState) = some ProtoState.sendData.code
      ∧ ProtoState.sendData.code ≠ (slot false).protocolState := by decide
theorem witness_StickyBitsStay :
    let s : State := { bench with stsTxOvf := true, stsRxOvf := true, stsNack := true, stsBusTimeout := true }
    PortEvent.command 0x7005#16 ≠ .rst ∧ decodeCommand 0x7005#16 = .clrsts 5#4
      ∧ after (arrive (.command 0x7005#16) s) (fun t => (t.stsTxOvf, t.stsRxOvf, t.stsNack, t.stsBusTimeout))
        = some (false, true, false, true) := by decide
theorem witness_StickyBitsSetByTheirEvents :
    after (cmd 0x2003#16 { bench with params := { benchParams with outqCap := 1 }, outQ := [1#8] }) (·.stsTxOvf) = some true
      ∧ after (tick { benchAt .receiveData 3#2 with
          bitIndex := 7#3, pendingReceive := 1#16, params := { benchParams with inqCap := 1 }, inQ := [1#8],
          sdaDir := false, peerDraws := [true] }) (·.stsRxOvf) = some true
      ∧ after (tick { slot true with cfgAckPolicy := true, params := { benchParams with retryLimit := 1 } })
          (fun t => (t.stsNack, t.stsBusTimeout)) = some (true, true) := by decide
theorem witness_ConfigurationChangesOnlyInIdle :
    PortEvent.command 0x6001#16 ≠ .rst ∧ after (arrive (.command 0x6001#16) bench) configWord = some 1#16
      ∧ configWord bench = 4#16 := by decide
theorem witness_QueuesChangeOnlyByTheirOwners :
    after (cmd 0x20A5#16 bench) (·.outQ) = some [0xA5#8]
      ∧ after (tick { benchAt .sendData 1#2 with outQ := [0xA5#8] }) (fun t => (t.outQ, t.shiftByte)) = some ([], 0xA5#8)
      ∧ after (tick { slot true with outQ := [1#8] }) (·.outQ) = some []
      ∧ after (cmd 0x4000#16 { bench with inQ := [1#8] }) (·.inQ) = some []
      ∧ after (tick { benchAt .receiveData 3#2 with
          bitIndex := 7#3, pendingReceive := 1#16, sdaDir := false, peerDraws := [true] }) (·.inQ) = some [1#8] := by decide
theorem witness_AddressLatchedAtInitiation :
    after (arrive .tick { benchAt .idle 1#2 with outQ := [1#8], targetAddress := 0x50#7 }) (·.txAddress) = some 0x50#7
      ∧ bench.txAddress = 0#7 := by decide
theorem witness_ResetMeetsInvariant : benchParams.wf ∧ Params.wf ⟨1, 65535, 0xFFFF#16, 0#16, 0x20000⟩ := by decide
theorem witness_StepKeepsInvariant :
    Inv readyToWrite ∧ after (step { readyToWrite with input := [.tick] }) (·.protocolState) = some 1#4
      ∧ Inv { readyToWrite with input := [.tick] } :=
  ⟨readyToWrite_inv, by decide, by
    refine ⟨?_, ?_, ?_, ?_, ?_, ?_, ?_, ?_, ?_, ?_, ?_, ?_, ?_, ?_, ?_, ?_, ?_⟩ <;> decide⟩
theorem witness_InvariantStatesNeverFault : Inv beforeStop := beforeStop_inv
theorem witness_ReachableStatesMeetSpecInvariants : Reachable bench := Reachable.boot benchParams [] [] none 0 (by decide)
theorem witness_FaultsOnlyAsListed :
    faultOf (exec .wackP3 bench) = some .pendingStateUndefined ∧ faultOf (exec (.sdataP1 false) bench) = some .outboundUnderflow
      ∧ faultOf (exec .rdataP3 bench) = some .readWhileDriving
      ∧ faultOf (exec .rdataP3 { bench with sdaDir := false, bitIndex := 7#3 }) = some .receiveUnderflow
      ∧ faultOf (exec (.tickReserved1215 false 0#2 1#2) bench) = some .reservedState := by decide
theorem witness_WorkBeginsWithinFourTicks :
    Inv readyToWrite ∧ readyToWrite.protocolState = ProtoState.idle.code ∧ workPending readyToWrite = true :=
  ⟨readyToWrite_inv, by decide, by decide⟩
theorem witness_ByteGoesOutMsbFirst :
    let s : State := { benchAt .sendData 1#2 with outQ := [0xA5#8, 1#8] }
    let r : State := { benchAt .sendData 1#2 with outQ := [1#8], resend := true, shiftByte := 0xA5#8 }
    s.protocolState = ProtoState.sendData.code ∧ s.subPhase = 1#2 ∧ s.bitIndex = 0#3 ∧ s.extraWait = 0#16
      ∧ s.waitFlag = false ∧ s.resend = false ∧ s.outQ = 0xA5#8 :: [1#8]
      ∧ r.protocolState = ProtoState.sendData.code ∧ r.subPhase = 1#2 ∧ r.bitIndex = 0#3 ∧ r.extraWait = 0#16
      ∧ r.waitFlag = false ∧ r.resend = true ∧ r.shiftByte = 0xA5#8 ∧ r.outQ = [1#8] := by decide
theorem witness_ByteComesInMsbFirst :
    let s : State :=
      { benchAt .receiveData 1#2 with
        pendingReceive := 1#16, peerDraws := [true, true, false, false, false, false, true, true, false] }
    s.protocolState = ProtoState.receiveData.code ∧ s.subPhase = 1#2 ∧ s.bitIndex = 0#3 ∧ s.extraWait = 0#16
      ∧ s.waitFlag = false ∧ 0 < s.pendingReceive.toNat
      ∧ s.peerDraws = [(0xC3#8 : Byte).getLsbD 7, (0xC3#8 : Byte).getLsbD 6, (0xC3#8 : Byte).getLsbD 5,
          (0xC3#8 : Byte).getLsbD 4, (0xC3#8 : Byte).getLsbD 3, (0xC3#8 : Byte).getLsbD 2, (0xC3#8 : Byte).getLsbD 1,
          (0xC3#8 : Byte).getLsbD 0] ++ [false] := by decide
theorem witness_AddressGoesOutMsbFirst :
    let s : State := { benchAt .sendAddress 1#2 with txAddress := 0x50#7 }
    s.protocolState = ProtoState.sendAddress.code ∧ s.subPhase = 1#2 ∧ s.bitIndex = 0#3 ∧ s.extraWait = 0#16
      ∧ s.waitFlag = false := by decide
/-- Idle at sub-phase 1 with one byte to read, and a peer that acknowledges and presents 0xC3. -/
def readyToRead : State :=
  { benchAt .idle 1#2 with
    pendingReceive := 1#16, peerDraws := [false, true, true, false, false, false, false, true, true, true] }

theorem readyToRead_inv : Inv readyToRead := by
  refine ⟨?_, ?_, ?_, ?_, ?_, ?_, ?_, ?_, ?_, ?_, ?_, ?_, ?_, ?_, ?_, ?_, ?_⟩ <;> decide

theorem witness_ReadTransactionReceivesItsBytes :
    Inv readyToRead ∧ readyToRead.protocolState = ProtoState.idle.code ∧ readyToRead.subPhase = 1#2
      ∧ readyToRead.outQ = [] ∧ readyToRead.pendingReceive.toNat = [0xC3#8].length
      ∧ readyToRead.inQ.length + [0xC3#8].length ≤ readyToRead.params.inqCap
      ∧ readyToRead.peerDraws
        = false :: [0xC3#8].flatMap (fun b => (List.range 8).map (fun i => b.getLsbD (7 - i))) ++ [true] :=
  ⟨readyToRead_inv, by decide, by decide, by decide, by decide, by decide, by decide⟩

theorem witness_WriteTransactionTakesItsTicks :
    Inv readyToWrite ∧ readyToWrite.protocolState = ProtoState.idle.code ∧ readyToWrite.subPhase = 1#2
      ∧ readyToWrite.outQ ≠ [] ∧ readyToWrite.peerDraws = [] ∧ readyToWrite.peerRest = some false :=
  ⟨readyToWrite_inv, by decide, by decide, by decide, by decide, by decide⟩

end Sys2Proof.Tests
end

section
/-! SUPPORT. What an arrival can do, said once: the effect of every command and of every tick, as inductive relations that
the model's own `arrive` is shown to follow. -/

namespace Sys2Proof.Machine

/-! ### What a host command can do -/

/-- What a host command does to the block besides its response (40_host_commands.md R100 to R108): nothing at all, or
the one effect its rule names. -/
inductive HostEffect (s : State) : Instr → State → Prop where
  | answerOnly (i : Instr) : HostEffect s i s
  | target (a : Addr) : HostEffect s (.setaddr a) { s with targetAddress := a }
  | append (b : Byte) (room : s.outQ.length < s.params.outqCap) :
      HostEffect s (.write b) { s with outQ := s.outQ ++ [b] }
  | overwrite (b : Byte) (full : s.params.outqCap ≤ s.outQ.length) (policy : s.cfgOvfPolicy = true) :
      HostEffect s (.write b) { s with stsTxOvf := true, outQ := s.outQ.tail ++ [b] }
  | reject (b : Byte) (full : s.params.outqCap ≤ s.outQ.length) (policy : s.cfgOvfPolicy = false) :
      HostEffect s (.write b) { s with stsTxOvf := true }
  | count (n : BitVec 12) (fits : s.pendingReceive.toNat + (readCount n).toNat ≤ 0xFFFF) :
      HostEffect s (.read n) { s with pendingReceive := s.pendingReceive + readCount n }
  | pop (b : Byte) (q : List Byte) (oldest : s.inQ = b :: q) : HostEffect s .poprx { s with inQ := q }
  | config (a i o : Bool) (idle : s.protocolState = ProtoState.idle.code) :
      HostEffect s (.setcfg a i o) { s with cfgAckPolicy := a, cfgIgnoreAck := i, cfgOvfPolicy := o }
  | clear (m : BitVec 4) : HostEffect s (.clrsts m) (clearSticky m s)

theorem inState_iff (p : ProtoState) (s : State) : inState p s = true ↔ s.protocolState = p.code := by
  simp [inState]

/-- A register number has no register exactly when it is reserved (R49). -/
theorem register_reserved (r : BitVec 4) (s : State) (h : 8 ≤ r.toNat) : register r s = none := by
  unfold register
  split
  case h_9 => rfl
  all_goals omega

/-- Every command completes with a response, after its one effect (R84, R100 to R108). -/
theorem exec_command_effect (i : Instr) (s : State) (h : isCommand i = true) :
    ∃ (u : State) (ok : Bool) (data : CmdWord), exec i s = .next (respond ok data u)
      ∧ (ok = false → data = 0#16) ∧ HostEffect s i u := by
  cases i with
  | nop => exact ⟨s, _, _, rfl, by simp, .answerOnly _⟩
  | setaddr a => exact ⟨_, _, _, rfl, by simp, .target a⟩
  | write b =>
    obtain ⟨room, e⟩ | ⟨full, policy, e⟩ | ⟨full, policy, e⟩ := pushOut_cases b s
    · exact ⟨_, _, _, rfl, fun _ => rfl, e ▸ .append b room⟩
    · exact ⟨_, _, _, rfl, fun _ => rfl, e ▸ .overwrite b full policy⟩
    · exact ⟨_, _, _, rfl, fun _ => rfl, e ▸ .reject b full policy⟩
  | read n =>
    by_cases fits : s.pendingReceive.toNat + (readCount n).toNat > 0xFFFF
    · exact ⟨s, _, _, if_pos fits, fun _ => rfl, .answerOnly _⟩
    · exact ⟨_, _, _, if_neg fits, fun _ => rfl, .count n (by omega)⟩
  | poprx =>
    cases hq : s.inQ with
    | nil => exact ⟨s, true, 0#16, by simp [exec, execPoprx, hq], by simp, .answerOnly _⟩
    | cons b q => exact ⟨_, true, poppedWord b, by simp [exec, execPoprx, hq], by simp, .pop b q hq⟩
  | rdreg r =>
    cases hr : register r s with
    | none => exact ⟨s, false, 0#16, by simp [exec, execRdreg, hr], fun _ => rfl, .answerOnly _⟩
    | some v => exact ⟨s, true, v, by simp [exec, execRdreg, hr], by simp, .answerOnly _⟩
  | setcfg a i o =>
    by_cases idle : inState .idle s = true
    · exact ⟨_, _, _, if_pos idle, by simp, .config a i o ((inState_iff _ s).mp idle)⟩
    · exact ⟨s, _, _, if_neg idle, fun _ => rfl, .answerOnly _⟩
  | clrsts m => exact ⟨_, _, _, rfl, by simp, .clear m⟩
  | reserved rest => exact ⟨s, _, _, rfl, fun _ => rfl, .answerOnly _⟩
  | illegal w => exact ⟨s, _, _, rfl, fun _ => rfl, .answerOnly _⟩
  | _ => cases h

theorem isCommand_unlessIllegal (m w : CmdWord) (i : Instr) (h : isCommand i = true) :
    isCommand (unlessIllegal m w i) = true := by
  unfold unlessIllegal; split
  · exact h
  · rfl

/-- Every command word is a CMD16 row (R80 to R82). -/
theorem isCommand_decodeCommand (w : CmdWord) : isCommand (decodeCommand w) = true := by
  unfold decodeCommand
  split
  case h_4 => rfl
  case h_9 => rfl
  all_goals exact isCommand_unlessIllegal _ _ _ rfl

/-! ### What a tick can do -/

/-- The one effect of each sub-phase 1 action that completes, in the state it belongs to (R140 to R149), before the
sub-phase advances. -/
inductive Phase1Effect (s : State) : ProtoState → State → Prop where
  | initiate (work : workPending s = true) :
      Phase1Effect s .idle (enter .start { s with txAddress := s.targetAddress })
  | stayIdle (rest : workPending s = false) : Phase1Effect s .idle s
  | start : Phase1Effect s .start s
  | openAddressBit (index : s.bitIndex = 7#3) : Phase1Effect s .sendAddress (openAddressBit s)
  | lastAddressBit (index : s.bitIndex = 6#3) :
      Phase1Effect s .sendAddress
        (enter .sendReadWriteBit { driveSDA (addressBit s.txAddress s.bitIndex) s with bitIndex := 0#3 })
  | addressBit (index : s.bitIndex.toNat < 6) :
      Phase1Effect s .sendAddress
        { driveSDA (addressBit s.txAddress s.bitIndex) s with bitIndex := s.bitIndex + 1#3 }
  | directionRead (empty : s.outQ = []) :
      Phase1Effect s .sendReadWriteBit (openAckSlot false .receiveData (driveSDA true s))
  | directionWrite (queued : s.outQ ≠ []) :
      Phase1Effect s .sendReadWriteBit (openAckSlot false .sendData (driveSDA false s))
  | release : Phase1Effect s .waitForAcknowledge (releaseSDA s)
  | resendByte (index : s.bitIndex = 0#3) (again : s.resend = true) :
      Phase1Effect s .sendData { driveSDA (dataBit s.shiftByte 0#3) s with resend := false, bitIndex := 1#3 }
  | popByte (b : Byte) (q : List Byte) (index : s.bitIndex = 0#3) (fresh : s.resend = false)
      (oldest : s.outQ = b :: q) :
      Phase1Effect s .sendData { driveSDA (dataBit b 0#3) s with shiftByte := b, outQ := q, bitIndex := 1#3 }
  | dataBit (notFirst : s.bitIndex ≠ 0#3) (notLast : s.bitIndex ≠ 7#3) :
      Phase1Effect s .sendData
        { driveSDA (dataBit s.shiftByte s.bitIndex) s with bitIndex := s.bitIndex + 1#3 }
  | lastDataBit (index : s.bitIndex = 7#3) :
      Phase1Effect s .sendData
        (openAckSlot true (if s.outQ = [] then .stop else .sendData)
          { driveSDA (dataBit s.shiftByte s.bitIndex) s with bitIndex := 0#3 })
  | beginByte (index : s.bitIndex = 0#3) :
      Phase1Effect s .receiveData { releaseSDA s with shiftByte := 0x00#8 }
  | receiveMore (index : s.bitIndex ≠ 0#3) : Phase1Effect s .receiveData s
  | ack (p : ProtoState) (pending : s.pendingState = some p) :
      Phase1Effect s .sendAcknowledge (masterAck false p s)
  | nack : Phase1Effect s .sendNoAcknowledge (masterAck true .stop s)
  | stop : Phase1Effect s .stop { driveSDA false s with extraWait := s.params.stopWait }

/-- What a failed acknowledge does, by the policy, the retry limit and the kind of the byte (R161). -/
inductive MissedEffect (s : State) : State → Prop where
  | aborted (policy : s.cfgAckPolicy = false) :
      MissedEffect s (abort (zeroRetry { s with stsNack := true }))
  | timedOut (policy : s.cfgAckPolicy = true) (limit : retryLimitReached s = true) :
      MissedEffect s (abort { s with stsNack := true, stsBusTimeout := true, retryCount := 0#16 })
  | resent (policy : s.cfgAckPolicy = true) (limit : retryLimitReached s = false)
      (kind : s.ackKind = true) :
      MissedEffect s (enter .sendData
        { countRetry { s with stsNack := true } with pendingState := none, resend := true })
  | stopped (policy : s.cfgAckPolicy = true) (limit : retryLimitReached s = false)
      (kind : s.ackKind = false) :
      MissedEffect s (enter .stop { countRetry { s with stsNack := true } with pendingState := none })

/-- The one effect of each sub-phase 3 action that completes with the pause not armed (R160 to R164), before the
sub-phase advances. -/
inductive Phase3Effect (s : State) : ProtoState → State → Prop where
  | noAction (p : ProtoState) (row : p ∈ [.idle, .sendAddress, .sendReadWriteBit, .sendData, .sendAcknowledge,
      .sendNoAcknowledge]) : Phase3Effect s p s
  | startEdge (work : workPending s = true) :
      Phase3Effect s .start (enter .sendAddress { driveSDA false s with extraWait := s.params.startWait })
  | startCancelled (rest : workPending s = false) : Phase3Effect s .start (enter .idle s)
  | acked (q : ProtoState) (pending : s.pendingState = some q) (released : s.sdaDir = false)
      (ack : (drawPeer s).1 = false ∨ s.cfgIgnoreAck = true) :
      Phase3Effect s .waitForAcknowledge (ackTaken q (drawPeer s).2)
  | missed (q : ProtoState) (u : State) (pending : s.pendingState = some q) (released : s.sdaDir = false)
      (nack : (drawPeer s).1 = true) (heeded : s.cfgIgnoreAck = false) (outcome : MissedEffect (drawPeer s).2 u) :
      Phase3Effect s .waitForAcknowledge u
  | byteIn (released : s.sdaDir = false) (index : s.bitIndex = 7#3) (wanted : s.pendingReceive ≠ 0#16) :
      Phase3Effect s .receiveData
        (completeByte (withDataBit s.shiftByte s.bitIndex (drawPeer s).1) (drawPeer s).2)
  | bitIn (released : s.sdaDir = false) (index : s.bitIndex ≠ 7#3) :
      Phase3Effect s .receiveData
        { (drawPeer s).2 with
          shiftByte := withDataBit s.shiftByte s.bitIndex (drawPeer s).1, bitIndex := s.bitIndex + 1#3 }
  | stopEdge : Phase3Effect s .stop (enter .idle (driveSDA true s))

/-- The action of a tick that is not consumed, in state `p`, before the sub-phase advances (R121 to R126). -/
inductive TickEffect (s : State) (p : ProtoState) : State → Prop where
  | clockLow (phase : s.subPhase = 0#2) : TickEffect s p (clockEdge false s)
  | phase1 (u : State) (phase : s.subPhase = 1#2) (act : Phase1Effect s p u) : TickEffect s p u
  | clockHigh (phase : s.subPhase = 2#2) : TickEffect s p (clockEdge true s)
  | pause (phase : s.subPhase = 3#2) (armed : s.waitFlag = true) : TickEffect s p { s with waitFlag := false }
  | phase3 (u : State) (phase : s.subPhase = 3#2) (clear : s.waitFlag = false) (act : Phase3Effect s p u) :
      TickEffect s p u

/-- What an arrival that is answered does: a command its one effect and its response, a tick with the extra wait
running the count alone (R120), any other tick its action and the advance, and `rst` the reset. -/
inductive ArrivalEffect (s : State) : PortEvent → State → Prop where
  | command (w : CmdWord) (u : State) (ok : Bool) (data : CmdWord) (effect : HostEffect s (decodeCommand w) u) :
      ArrivalEffect s (.command w) (respond ok data u)
  | consumed (running : s.extraWait ≠ 0#16) : ArrivalEffect s .tick { s with extraWait := s.extraWait - 1#16 }
  | acted (p : ProtoState) (u : State) (expired : s.extraWait = 0#16) (state : s.protocolState = p.code)
      (effect : TickEffect s p u) : ArrivalEffect s .tick (advance u)
  | reset : ArrivalEffect s .rst (applyReset s)

theorem sendAddressBit_effect (s : State) : Phase1Effect s .sendAddress (sendAddressBit s) := by
  unfold sendAddressBit
  by_cases h7 : s.bitIndex = 7#3
  · rw [if_pos h7]; exact .openAddressBit h7
  · rw [if_neg h7]
    by_cases h6 : s.bitIndex = 6#3
    · rw [if_pos h6]; exact .lastAddressBit h6
    · rw [if_neg h6]; exact .addressBit (by bv_omega)

/-- At bit 0 the first data bit goes out and the index becomes 1 (R145). -/
theorem sendDataBit_first {s : State} (first : s.bitIndex = 0#3) :
    sendDataBit s = { driveSDA (dataBit s.shiftByte 0#3) s with bitIndex := 1#3 } := by
  simp [sendDataBit, first]

theorem execSdataP1_effect {wf : Bool} {s t : State} (h : execSdataP1 wf s = .next t) :
    ∃ u, t = advance u ∧ Phase1Effect s .sendData u := by
  unfold execSdataP1 at h
  split at h
  · next first =>
    split at h
    · next again =>
      cases h
      exact ⟨_, rfl, sendDataBit_first (s := { s with resend := false }) first ▸ .resendByte first again⟩
    · next fresh =>
      split at h <;> cases h
      next b q oldest =>
        exact ⟨_, rfl, sendDataBit_first (s := { s with shiftByte := b, outQ := q }) first ▸
          .popByte b q first (Bool.eq_false_of_not_eq_true fresh) oldest⟩
  · next notFirst =>
    cases h
    refine ⟨_, rfl, ?_⟩
    unfold sendDataBit
    split
    · exact .lastDataBit ‹_›
    · exact .dataBit notFirst ‹_›

/-- Each sub-phase 1 row does the effect of its state (R125, R140 to R149). -/
theorem phase1_effect {wf : Bool} {p : ProtoState} {s t : State} (h : exec (phase1Row wf p) s = .next t) :
    ∃ u, t = advance u ∧ Phase1Effect s p u := by
  cases p with
  | idle =>
    change execIdleP1 wf s = _ at h
    unfold execIdleP1 at h
    split at h <;> cases h
    · exact ⟨_, rfl, .initiate ‹_›⟩
    · exact ⟨_, rfl, .stayIdle (Bool.eq_false_of_not_eq_true ‹_›)⟩
  | start => cases h; exact ⟨_, rfl, .start⟩
  | sendAddress => cases h; exact ⟨_, rfl, sendAddressBit_effect s⟩
  | sendReadWriteBit =>
    change execSrwP1 wf s = _ at h
    unfold execSrwP1 at h
    split at h <;> cases h
    · exact ⟨_, rfl, .directionRead ‹_›⟩
    · exact ⟨_, rfl, .directionWrite ‹_›⟩
  | waitForAcknowledge => cases h; exact ⟨_, rfl, .release⟩
  | sendData => exact execSdataP1_effect (wf := wf) h
  | receiveData =>
    change execRdataP1 wf s = _ at h
    unfold execRdataP1 at h
    split at h <;> cases h
    · exact ⟨_, rfl, .beginByte ‹_›⟩
    · exact ⟨_, rfl, .receiveMore ‹_›⟩
  | sendAcknowledge =>
    change execSackP1 wf s = _ at h
    unfold execSackP1 at h
    split at h <;> cases h
    exact ⟨_, rfl, .ack _ ‹_›⟩
  | sendNoAcknowledge => cases h; exact ⟨_, rfl, .nack⟩
  | stop => cases h; exact ⟨_, rfl, .stop⟩

theorem ackMissed_effect (s : State) : MissedEffect s (ackMissed s) := by
  have countRetry_ackKind : (countRetry { s with stsNack := true }).ackKind = s.ackKind := by
    obtain ⟨c, n, e⟩ := countRetry_frame { s with stsNack := true }
    rw [e]
  unfold ackMissed
  split
  · next policy =>
    split
    · exact .timedOut policy ‹_›
    · next limit =>
      have limit := Bool.eq_false_of_not_eq_true limit
      unfold retrySlot
      split
      · next kind => exact .resent policy limit (countRetry_ackKind ▸ kind)
      · next kind => exact .stopped policy limit (countRetry_ackKind ▸ Bool.eq_false_of_not_eq_true kind)
  · exact .aborted (Bool.eq_false_of_not_eq_true ‹_›)

theorem execWackP3_effect {s t : State} (h : execWackP3 s = .next t) :
    ∃ u, t = advance u ∧ Phase3Effect s .waitForAcknowledge u := by
  unfold execWackP3 at h
  split at h
  · cases h
  · next q pending =>
    obtain ⟨released, h⟩ := sampleSDA_next h
    cases h
    obtain ⟨ds, n, frame⟩ := drawPeer_frame s
    refine ⟨_, rfl, ?_⟩
    unfold resolveAck
    split
    · next taken => exact .acked q pending released (by simpa [frame] using taken)
    · next lost =>
      have lost : (drawPeer s).1 = true ∧ s.cfgIgnoreAck = false := by simpa [frame] using lost
      exact .missed q _ pending released lost.1 lost.2 (ackMissed_effect _)

theorem execRdataP3_effect {s t : State} (h : execRdataP3 s = .next t) :
    ∃ u, t = advance u ∧ Phase3Effect s .receiveData u := by
  obtain ⟨released, h⟩ := sampleSDA_next h
  obtain ⟨ds, n, frame⟩ := drawPeer_frame s
  have index : (drawPeer s).2.bitIndex = s.bitIndex := by rw [frame]
  have byte : (drawPeer s).2.shiftByte = s.shiftByte := by rw [frame]
  have left : (drawPeer s).2.pendingReceive = s.pendingReceive := by rw [frame]
  unfold receiveBit at h
  rw [index, byte] at h
  split at h
  · split at h <;> cases h
    next wanted => exact ⟨_, rfl, .byteIn released ‹_› (left ▸ wanted)⟩
  · cases h
    exact ⟨_, rfl, .bitIn released ‹_›⟩

/-- Each sub-phase 3 row does the effect of its state (R126, R160 to R164). -/
theorem phase3_effect {p : ProtoState} {s t : State} (h : exec (phase3Row p) s = .next t) :
    ∃ u, t = advance u ∧ Phase3Effect s p u := by
  cases p with
  | start =>
    change execStartP3 s = _ at h
    unfold execStartP3 at h
    split at h <;> cases h
    · exact ⟨_, rfl, .startEdge ‹_›⟩
    · exact ⟨_, rfl, .startCancelled (Bool.eq_false_of_not_eq_true ‹_›)⟩
  | waitForAcknowledge => exact execWackP3_effect h
  | receiveData => exact execRdataP3_effect h
  | stop => cases h; exact ⟨_, rfl, .stopEdge⟩
  | _ => cases h; exact ⟨_, rfl, .noAction _ (by decide)⟩

/-- A tick that is not consumed runs the action of its sub-phase (R121 to R126). -/
theorem openGate_effect {p : ProtoState} {s t : State}
    (h : exec (openGateRow s.waitFlag s.protocolState s.subPhase p) s = .next t) :
    ∃ u, t = advance u ∧ TickEffect s p u := by
  have phases : s.subPhase = 0#2 ∨ s.subPhase = 1#2 ∨ s.subPhase = 2#2 ∨ s.subPhase = 3#2 := by bv_omega
  obtain phase | phase | phase | phase := phases <;> rw [phase] at h
  · cases h; exact ⟨_, rfl, .clockLow phase⟩
  · obtain ⟨u, e, act⟩ := phase1_effect h
    exact ⟨u, e, .phase1 u phase act⟩
  · cases h; exact ⟨_, rfl, .clockHigh phase⟩
  · cases armed : s.waitFlag with
    | true => rw [armed] at h; cases h; exact ⟨_, rfl, .pause phase armed⟩
    | false =>
      rw [armed] at h
      obtain ⟨u, e, act⟩ := phase3_effect h
      exact ⟨u, e, .phase3 u phase armed act⟩

theorem exec_reservedRow (wf : Bool) (c : StateCode) (ph : Phase) (s : State) :
    exec (reservedRow wf c ph) s = .fault .reservedState := by
  unfold reservedRow; split <;> rfl

/-- A tick that is answered was consumed or ran the action of a named state: a reserved code faults (R87, R88). -/
theorem tick_effect {s t : State} (h : arrive .tick s = .next t) : ArrivalEffect s .tick t := by
  change exec (decodeKey (tickKey s)) s = _ at h
  rw [decodeKey_tickKey] at h
  by_cases wait : s.extraWait = 0#16
  · rw [if_neg (not_not.mpr wait)] at h
    by_cases legal : s.protocolState.toNat < 10
    · obtain ⟨p, state⟩ := legalCode_names_state _ legal
      simp only [state, stateOfCode_code] at h
      rw [← state] at h
      obtain ⟨u, rfl, act⟩ := openGate_effect h
      exact .acted p u wait state act
    · simp [stateOfCode_reserved _ (not_lt.mp legal), exec_reservedRow] at h
  · rw [if_pos wait] at h
    change execTickConsume s.waitFlag s.protocolState s.subPhase s = _ at h
    unfold execTickConsume at h
    rw [if_neg wait] at h
    cases h
    exact .consumed wait

/-- All that an answered arrival can do (R183, R189). -/
theorem arrive_effect {e : PortEvent} {s t : State} (h : arrive e s = .next t) : ArrivalEffect s e t := by
  cases e with
  | tick => exact tick_effect h
  | command w =>
    obtain ⟨u, ok, data, answer, -, effect⟩ := exec_command_effect _ s (isCommand_decodeCommand w)
    rw [show arrive (.command w) s = _ from answer] at h
    cases h
    exact .command w u ok data effect
  | rst => cases h; exact .reset

end Sys2Proof.Machine
end

section
/-! PROOFS. The statements about which arrival may write which element: O22, O25, O47, O49, O45 and O46. -/

namespace Sys2Proof.Machine

/-- Settles O22: a reserved number has no register to read. -/
theorem rdregReservedNumbersRefused : Obligations.RdregReservedNumbersRefused := by
  intro r s h
  change execRdreg r s = _
  simp [execRdreg, register_reserved r s h, respond]

/-- READ's count grows and does not wrap (R103). -/
theorem pendingReceive_le_add {n : BitVec 12} {s : State}
    (fits : s.pendingReceive.toNat + (readCount n).toNat ≤ 0xFFFF) :
    s.pendingReceive.toNat ≤ (s.pendingReceive + readCount n).toNat := by
  rw [BitVec.toNat_add_of_lt (by omega)]
  omega

/-- What the host cannot write (R21, R193), with the work it cannot take away (R160): `u` has that of `s`. -/
structure BusKept (s u : State) : Prop where
  protocolState : u.protocolState = s.protocolState
  subPhase : u.subPhase = s.subPhase
  bitIndex : u.bitIndex = s.bitIndex
  shiftByte : u.shiftByte = s.shiftByte
  txAddress : u.txAddress = s.txAddress
  waitFlag : u.waitFlag = s.waitFlag
  extraWait : u.extraWait = s.extraWait
  pendingState : u.pendingState = s.pendingState
  resend : u.resend = s.resend
  ackKind : u.ackKind = s.ackKind
  retryCount : u.retryCount = s.retryCount
  sclDir : u.sclDir = s.sclDir
  sclLvl : u.sclLvl = s.sclLvl
  sdaDir : u.sdaDir = s.sdaDir
  sdaLvl : u.sdaLvl = s.sdaLvl
  params : u.params = s.params
  input : u.input = s.input
  peerDraws : u.peerDraws = s.peerDraws
  peerRest : u.peerRest = s.peerRest
  freeCount : u.freeCount = s.freeCount
  outQ : s.outQ ≠ [] → u.outQ ≠ []
  pendingReceive : s.pendingReceive.toNat ≤ u.pendingReceive.toNat

/-- Each of the effects a command can have leaves the bus state alone. -/
theorem HostEffect.busKept {i : Instr} {s u : State} (h : HostEffect s i u) : BusKept s u := by
  cases h with
  | count n fits => constructor <;> simp [-BitVec.toNat_add, pendingReceive_le_add fits]
  | clear m => constructor <;> simp [clearSticky]
  | _ => constructor <;> simp

/-- Settles O25: the answer is that of the command's one effect, which leaves the bus state alone. -/
theorem commandsTouchNoBusState : Obligations.CommandsTouchNoBusState := by
  intro i s h
  obtain ⟨u, ok, data, answer, refusal, effect⟩ := exec_command_effect i s h
  have kept := effect.busKept
  exact ⟨_, _, answer, rfl, refusal, kept.protocolState, kept.subPhase, kept.bitIndex, kept.shiftByte, kept.txAddress,
    kept.waitFlag, kept.extraWait, kept.pendingState, kept.resend, kept.ackKind, kept.retryCount, kept.sclDir,
    kept.sclLvl, kept.sdaDir, kept.sdaLvl, kept.params, kept.input, kept.peerDraws, kept.peerRest, kept.freeCount,
    kept.outQ, kept.pendingReceive⟩

/-! ### What no tick writes -/

/-- The elements that only a command or a reset writes: `u` has those of `s`. -/
structure HostPartKept (s u : State) : Prop where
  params : u.params = s.params
  targetAddress : u.targetAddress = s.targetAddress
  ackPolicy : u.cfgAckPolicy = s.cfgAckPolicy
  ignoreAck : u.cfgIgnoreAck = s.cfgIgnoreAck
  ovfPolicy : u.cfgOvfPolicy = s.cfgOvfPolicy
  txOvf : u.stsTxOvf = s.stsTxOvf

theorem pushIn_eq (b : Byte) (s : State) :
    pushIn b s = { s with
      stsRxOvf := s.stsRxOvf || decide (s.inQ.length = s.params.inqCap)
      inQ := (if s.inQ.length = s.params.inqCap then s.inQ.tail else s.inQ) ++ [b] } := by
  unfold pushIn; split <;> simp_all

theorem Phase1Effect.hostPartKept {p : ProtoState} {s u : State} (h : Phase1Effect s p u) : HostPartKept s u := by
  cases h <;> constructor <;> rfl

theorem MissedEffect.hostPartKept {s u : State} (h : MissedEffect s u) : HostPartKept s u := by
  obtain ⟨c, n, count⟩ := countRetry_frame { s with stsNack := true }
  cases h <;> constructor <;> simp [zeroRetry_eq, count]

theorem Phase3Effect.hostPartKept {p : ProtoState} {s u : State} (h : Phase3Effect s p u) : HostPartKept s u := by
  obtain ⟨ds, n, drawn⟩ := drawPeer_frame s
  cases h with
  | acked => constructor <;> simp [ackTaken, zeroRetry_eq, drawn]
  | missed _ _ _ _ _ _ outcome =>
    obtain ⟨hp, ht, ha, hi, ho, hx⟩ := outcome.hostPartKept
    rw [drawn] at hp ht ha hi ho hx
    exact ⟨hp, ht, ha, hi, ho, hx⟩
  | byteIn => unfold completeByte; split <;> constructor <;> simp [pushIn_eq, drawn]
  | bitIn => constructor <;> simp [drawn]
  | _ => constructor <;> rfl

theorem TickEffect.hostPartKept {p : ProtoState} {s u : State} (h : TickEffect s p u) : HostPartKept s u := by
  cases h with
  | phase1 _ _ act => exact act.hostPartKept
  | phase3 _ _ _ act => exact act.hostPartKept
  | pause => constructor <;> rfl
  | _ => constructor <;> simp [clockEdge_eq]

/-- Settles O47: a tick leaves the configuration, and of the commands only SETCFG in Idle writes it. -/
theorem configurationChangesOnlyInIdle : Obligations.ConfigurationChangesOnlyInIdle := by
  intro s t e answer notReset change
  cases arrive_effect answer with
  | reset => exact absurd rfl notReset
  | consumed => simp at change
  | acted p u _ _ effect =>
    obtain ⟨-, -, ack, ignore, ovf, -⟩ := effect.hostPartKept
    simp [ack, ignore, ovf] at change
  | command w u ok data effect =>
    generalize decoded : decodeCommand w = i at effect
    cases effect with
    | config a i o idle => exact ⟨idle, w, a, i, o, rfl, decoded⟩
    | clear m => simp [clearSticky] at change
    | _ => simp at change

/-! ### The latched address -/

/-- Of the actions of a tick only the initiation in Idle writes the latched address (R26, R140). -/
theorem Phase1Effect.txAddress {p : ProtoState} {s u : State} (h : Phase1Effect s p u) :
    u.txAddress = s.txAddress
      ∨ p = .idle ∧ u.protocolState = ProtoState.start.code ∧ u.txAddress = s.targetAddress := by
  cases h with
  | initiate => exact .inr ⟨rfl, rfl, rfl⟩
  | _ => exact .inl rfl

theorem MissedEffect.txAddress {s u : State} (h : MissedEffect s u) : u.txAddress = s.txAddress := by
  obtain ⟨c, n, count⟩ := countRetry_frame { s with stsNack := true }
  cases h <;> simp [zeroRetry_eq, count]

theorem Phase3Effect.txAddress {p : ProtoState} {s u : State} (h : Phase3Effect s p u) :
    u.txAddress = s.txAddress := by
  obtain ⟨ds, n, drawn⟩ := drawPeer_frame s
  cases h with
  | acked => simp [ackTaken, zeroRetry_eq, drawn]
  | missed _ _ _ _ _ _ outcome => rw [outcome.txAddress, drawn]
  | byteIn => unfold completeByte; split <;> simp [pushIn_eq, drawn]
  | bitIn => simp [drawn]
  | _ => rfl

/-- Settles O49: no effect but the initiation writes the latched address. -/
theorem addressLatchedAtInitiation : Obligations.AddressLatchedAtInitiation := by
  intro s t e answer notReset change
  cases arrive_effect answer with
  | reset => exact absurd rfl notReset
  | consumed => simp at change
  | command w u ok data effect =>
    exact absurd effect.busKept.txAddress change
  | acted p u _ state effect =>
    cases effect with
    | phase1 _ phase act =>
      obtain same | ⟨rfl, start, latched⟩ := act.txAddress
      · exact absurd same change
      · exact ⟨rfl, state, phase, start, latched⟩
    | phase3 _ _ _ act => exact absurd act.txAddress change
    | pause => simp at change
    | _ => simp [clockEdge_eq] at change

/-! ### The sticky bits -/

theorem Phase1Effect.sticky {p : ProtoState} {s u : State} (h : Phase1Effect s p u) :
    u.stsRxOvf = s.stsRxOvf ∧ u.stsNack = s.stsNack ∧ u.stsBusTimeout = s.stsBusTimeout := by
  cases h <;> exact ⟨rfl, rfl, rfl⟩

/-- A failed acknowledge records NACK, and BUSTO where the limit in force is reached under Retry (R161). -/
theorem MissedEffect.sticky {s u : State} (h : MissedEffect s u) :
    u.stsRxOvf = s.stsRxOvf ∧ u.stsNack = true
      ∧ u.stsBusTimeout = (s.stsBusTimeout || s.cfgAckPolicy && retryLimitReached s) := by
  obtain ⟨c, n, count⟩ := countRetry_frame { s with stsNack := true }
  cases h with
  | aborted policy => simp [zeroRetry_eq, policy]
  | timedOut policy limit => simp [policy, limit]
  | resent policy limit => rw [count]; simp [policy, limit]
  | stopped policy limit => rw [count]; simp [policy, limit]

/-- A completed byte records RXOVF where the queue was at its capacity (R63). -/
theorem completeByte_sticky (b : Byte) (s : State) :
    (completeByte b s).stsRxOvf = (s.stsRxOvf || decide (s.inQ.length = s.params.inqCap))
      ∧ (completeByte b s).stsNack = s.stsNack ∧ (completeByte b s).stsBusTimeout = s.stsBusTimeout := by
  unfold completeByte; split <;> simp [pushIn_eq]

/-- What a sub-phase 3 action does to the three sticky bits a tick can set: nothing, or a set at the event R35 names. -/
theorem Phase3Effect.sticky {p : ProtoState} {s u : State} (h : Phase3Effect s p u) :
    (u.stsRxOvf = s.stsRxOvf ∧ u.stsNack = s.stsNack ∧ u.stsBusTimeout = s.stsBusTimeout)
    ∨ (p = .receiveData ∧ s.bitIndex = 7#3 ∧ u.stsNack = s.stsNack ∧ u.stsBusTimeout = s.stsBusTimeout
        ∧ u.stsRxOvf = (s.stsRxOvf || decide (s.inQ.length = s.params.inqCap)))
    ∨ (p = .waitForAcknowledge ∧ (drawPeer s).1 = true ∧ s.cfgIgnoreAck = false ∧ u.stsRxOvf = s.stsRxOvf
        ∧ u.stsNack = true
        ∧ u.stsBusTimeout = (s.stsBusTimeout || s.cfgAckPolicy && retryLimitReached s)) := by
  obtain ⟨ds, n, drawn⟩ := drawPeer_frame s
  cases h with
  | acked => simp [ackTaken, zeroRetry_eq, drawn]
  | missed _ _ _ _ nack heeded outcome =>
    obtain ⟨rx, nk, bt⟩ := outcome.sticky
    rw [drawn] at rx bt
    exact .inr (.inr ⟨rfl, nack, heeded, rx, nk, bt⟩)
  | byteIn _ index =>
    obtain ⟨rx, nk, bt⟩ := completeByte_sticky (withDataBit s.shiftByte s.bitIndex (drawPeer s).1) (drawPeer s).2
    rw [drawn] at rx nk bt ⊢
    exact .inr (.inl ⟨rfl, index, nk, bt, rx⟩)
  | bitIn => simp [drawn]
  | _ => exact .inl ⟨rfl, rfl, rfl⟩

/-- The same for a whole tick that is not consumed; the sets are in sub-phase 3 with the pause not armed. -/
theorem TickEffect.sticky {p : ProtoState} {s u : State} (h : TickEffect s p u) :
    (u.stsRxOvf = s.stsRxOvf ∧ u.stsNack = s.stsNack ∧ u.stsBusTimeout = s.stsBusTimeout)
    ∨ (s.subPhase = 3#2 ∧ s.waitFlag = false ∧ Phase3Effect s p u) := by
  cases h with
  | phase1 _ _ act => exact .inl act.sticky
  | phase3 _ phase clear act => exact .inr ⟨phase, clear, act⟩
  | pause => exact .inl ⟨rfl, rfl, rfl⟩
  | _ => simp [clockEdge_eq]

/-- No tick clears a sticky bit (R35). -/
theorem TickEffect.sticky_stays {p : ProtoState} {s u : State} (h : TickEffect s p u) :
    (s.stsTxOvf = true → u.stsTxOvf = true) ∧ (s.stsRxOvf = true → u.stsRxOvf = true)
      ∧ (s.stsNack = true → u.stsNack = true) ∧ (s.stsBusTimeout = true → u.stsBusTimeout = true) := by
  have tx := h.hostPartKept.txOvf
  obtain ⟨rx, nk, bt⟩ | ⟨-, -, act⟩ := h.sticky
  · simp [tx, rx, nk, bt]
  · obtain ⟨rx, nk, bt⟩ | ⟨-, -, nk, bt, rx⟩ | ⟨-, -, -, rx, nk, bt⟩ := act.sticky <;>
      simp +contextual [tx, rx, nk, bt]

/-- Settles O45: ticks only set sticky bits, and of the commands only CLRSTS clears the bits its mask selects. -/
theorem stickyBitsStay : Obligations.StickyBitsStay := by
  intro s t e answer notReset cleared
  cases arrive_effect answer with
  | reset => exact absurd rfl notReset
  | consumed => exact ⟨.inl, .inl, .inl, .inl⟩
  | acted p u _ _ effect =>
    obtain ⟨tx, rx, nk, bt⟩ := effect.sticky_stays
    exact ⟨.inl ∘ tx, .inl ∘ rx, .inl ∘ nk, .inl ∘ bt⟩
  | command w u ok data effect =>
    generalize decoded : decodeCommand w = i at effect
    cases effect with
    | clear m =>
      have selected : ∀ k, m.getLsbD k = true → cleared k := fun k on => ⟨w, m, rfl, decoded, on⟩
      have keep : ∀ (b : Bool) (k : Nat), b = true → (b && !m.getLsbD k) = true ∨ cleared k := by
        intro b k set
        cases on : m.getLsbD k with
        | true => exact .inr (selected k on)
        | false => simp [set]
      exact ⟨keep _ 0, keep _ 1, keep _ 2, keep _ 3⟩
    | _ => simp +contextual

/-- A command sets no sticky bit but TXOVF, and that one only as a WRITE into a full queue (R35, R62). -/
theorem HostEffect.sticky_set {i : Instr} {s u : State} (h : HostEffect s i u) :
    (s.stsTxOvf = false → u.stsTxOvf = true → ∃ b, i = .write b ∧ s.params.outqCap ≤ s.outQ.length)
    ∧ (s.stsRxOvf = false → u.stsRxOvf = false) ∧ (s.stsNack = false → u.stsNack = false)
    ∧ (s.stsBusTimeout = false → u.stsBusTimeout = false) := by
  cases h with
  | overwrite b full => exact ⟨fun _ _ => ⟨b, rfl, full⟩, id, id, id⟩
  | reject b full => exact ⟨fun _ _ => ⟨b, rfl, full⟩, id, id, id⟩
  | clear m => simp +contextual [clearSticky]
  | _ => simp +contextual

/-- Settles O46: TXOVF by a WRITE, the others by the two actions of sub-phase 3 that sample SDA. -/
theorem stickyBitsSetByTheirEvents : Obligations.StickyBitsSetByTheirEvents := by
  intro s t e answer samples
  cases arrive_effect answer with
  | reset => simp [applyReset, State.reset]
  | consumed => simp +contextual
  | command w u ok data effect =>
    obtain ⟨tx, rx, nk, bt⟩ := effect.sticky_set
    refine ⟨fun off on => ?_, ?_, ?_, ?_⟩
    · obtain ⟨b, write, full⟩ := tx off on
      exact ⟨w, b, rfl, write, full⟩
    all_goals simp +contextual [rx, nk, bt]
  | acted p u expired state effect =>
    have tx := effect.hostPartKept.txOvf
    obtain ⟨rx, nk, bt⟩ | ⟨phase, clear, act⟩ := effect.sticky
    · simp +contextual [tx, rx, nk, bt]
    · obtain ⟨rx, nk, bt⟩ | ⟨rfl, index, nk, bt, rx⟩ | ⟨rfl, nack, heeded, rx, nk, bt⟩ := act.sticky
      · simp +contextual [tx, rx, nk, bt]
      · have sampled : samples .receiveData := ⟨rfl, expired, state, phase, clear⟩
        simp +contextual [tx, rx, nk, bt, sampled, index]
      · have sampled : samples .waitForAcknowledge := ⟨rfl, expired, state, phase, clear⟩
        simp +contextual [tx, rx, nk, bt, sampled, nack, heeded, retryLimitReached]

end Sys2Proof.Machine
end

section
/-! SUPPORT. The invariant `Inv` read for one protocol state at a time, and its shared clauses over each effect. -/

namespace Sys2Proof.Machine

/-! ### The invariant, state by state -/

/-- What `Inv` says of every state alike: the clock, the capacities and the retry bound. -/
structure SharedInv (s : State) : Prop where
  clock : ClockDriven s
  capacity : WithinCapacity s
  retry : RetryBounded s

/-- SCL follows the sub-phase: low from the edge of sub-phase 0 to that of sub-phase 2. -/
@[simp] def SclInPhase (s : State) : Prop :=
  (s.subPhase = 0#2 → s.sclLvl = true) ∧ (s.subPhase = 1#2 ∨ s.subPhase = 2#2 → s.sclLvl = false)

/-- Both lines at rest, driven high. -/
@[simp] def LinesHigh (s : State) : Prop := s.sclLvl = true ∧ s.sdaDir = true ∧ s.sdaLvl = true

/-- No wait runs, no pause is armed, no byte is to be sent again and no byte is in progress. -/
@[simp] def Quiet (s : State) : Prop :=
  s.extraWait = 0#16 ∧ s.waitFlag = false ∧ s.resend = false ∧ s.bitIndex = 0#3

/-- The second half of a bit period, from the clock's low to its high phase. -/
@[simp] def LateHalf (s : State) : Prop := s.subPhase = 2#2 ∨ s.subPhase = 3#2

/-- What `Inv` says of a block in state `p`. -/
@[simp] def StateInv (s : State) : ProtoState → Prop
  | .idle => s.pendingState = none ∧ Quiet s ∧ LinesHigh s
  | .start => s.pendingState = none ∧ Quiet s ∧ LinesHigh s ∧ LateHalf s ∧ workPending s = true
  | .sendAddress =>
    s.pendingState = none ∧ (s.extraWait ≠ 0#16 → s.subPhase = 0#2) ∧ s.waitFlag = false ∧ s.resend = false
      ∧ s.bitIndex.toNat ≤ 6 ∧ SclInPhase s ∧ workPending s = true
  | .sendReadWriteBit => s.pendingState = none ∧ Quiet s ∧ SclInPhase s ∧ workPending s = true
  | .waitForAcknowledge =>
    (s.pendingState = some .sendData ∨ s.pendingState = some .receiveData ∨ s.pendingState = some .stop)
      ∧ (s.pendingState = some .sendData → s.outQ ≠ [])
      ∧ (s.pendingState = some .receiveData → s.pendingReceive ≠ 0#16)
      ∧ s.extraWait = 0#16 ∧ (s.waitFlag = true → LateHalf s) ∧ s.resend = false ∧ s.bitIndex = 0#3 ∧ SclInPhase s
      ∧ (LateHalf s → s.waitFlag = false → s.sdaDir = false)
  | .sendData =>
    s.pendingState = none ∧ s.extraWait = 0#16 ∧ s.waitFlag = false ∧ SclInPhase s
      ∧ (s.resend = true → s.bitIndex = 0#3) ∧ (s.bitIndex = 0#3 → s.outQ ≠ [] ∨ s.resend = true)
  | .receiveData =>
    s.pendingState = none ∧ s.extraWait = 0#16 ∧ (s.waitFlag = true → LateHalf s) ∧ s.resend = false
      ∧ s.pendingReceive ≠ 0#16 ∧ SclInPhase s ∧ (LateHalf s → s.waitFlag = false → s.sdaDir = false)
      ∧ (s.bitIndex ≠ 0#3 → s.sdaDir = false)
  | .sendAcknowledge =>
    s.pendingState = some .receiveData ∧ Quiet s ∧ SclInPhase s ∧ s.pendingReceive ≠ 0#16
  | .sendNoAcknowledge => s.pendingState = some .stop ∧ Quiet s ∧ SclInPhase s
  | .stop =>
    s.pendingState = none ∧ (s.extraWait ≠ 0#16 → s.subPhase = 2#2) ∧ (s.waitFlag = true → LateHalf s)
      ∧ s.resend = false ∧ s.bitIndex = 0#3 ∧ SclInPhase s
      ∧ (LateHalf s → s.waitFlag = false → s.sdaDir = true ∧ s.sdaLvl = false)

theorem inState_of_code {p : ProtoState} {s : State} (state : s.protocolState = p.code) (q : ProtoState) :
    inState q s = decide (p = q) := by
  rw [inState, state]
  exact decide_eq_decide.mpr ⟨code_injective, congrArg _⟩

theorem subPhase_cases (s : State) :
    s.subPhase = 0#2 ∨ s.subPhase = 1#2 ∨ s.subPhase = 2#2 ∨ s.subPhase = 3#2 := by bv_omega

theorem one_le_toNat_iff (c : Count) : 1 ≤ c.toNat ↔ c ≠ 0#16 := by bv_omega

/-- `Inv` read for one protocol state: each of its clauses names the states it is about. -/
theorem Inv.stateInv {p : ProtoState} {s : State} (state : s.protocolState = p.code) (inv : Inv s) : StateInv s p := by
  obtain ⟨-, lifetime, target, start, index, pause, outbound, resend, inbound, work, pins, -, sample, released, stop,
    -, -⟩ := inv
  simp only [PendingLifetime, PendingTarget, StartWindow, BitIndexBounds, PauseWindow, OutboundGuard, ResendLifetime,
    InboundGuard, WorkKept, PinLevels, SampleReleased, ReleasedEarly, StopPrepared, inState_of_code state,
    one_le_toNat_iff] at *
  cases p <;> simp_all <;> grind

/-- The converse: the clauses of `Inv` are met where those of the present state are. -/
theorem StateInv.inv {p : ProtoState} {s : State} (state : s.protocolState = p.code) (shared : SharedInv s)
    (here : StateInv s p) : Inv s := by
  have code : CodeLegal s := by rw [CodeLegal, state]; cases p <;> decide
  obtain ⟨clock, capacity, retry⟩ := shared
  have clockDir := clock.1
  have clauses : PendingLifetime s ∧ PendingTarget s ∧ StartWindow s ∧ BitIndexBounds s ∧ PauseWindow s
      ∧ OutboundGuard s ∧ ResendLifetime s ∧ InboundGuard s ∧ WorkKept s ∧ PinLevels s ∧ SampleReleased s
      ∧ ReleasedEarly s ∧ StopPrepared s := by
    simp only [PendingLifetime, PendingTarget, StartWindow, BitIndexBounds, PauseWindow, OutboundGuard, ResendLifetime,
      InboundGuard, WorkKept, PinLevels, SampleReleased, ReleasedEarly, StopPrepared, inState_of_code state,
      one_le_toNat_iff]
    cases p <;> simp_all
    grind
  obtain ⟨lifetime, target, start, index, pause, outbound, resend, inbound, work, pins, sample, released, stop⟩ :=
    clauses
  exact ⟨code, lifetime, target, start, index, pause, outbound, resend, inbound, work, pins, clock, sample, released,
    stop, capacity, retry⟩

/-! ### The shared clauses over an effect -/

/-- The clock's elements: `u` has those of `s`. -/
structure ClockKept (s u : State) : Prop where
  subPhase : u.subPhase = s.subPhase
  dir : u.sclDir = s.sclDir
  lvl : u.sclLvl = s.sclLvl

theorem Phase1Effect.clockKept {p : ProtoState} {s u : State} (h : Phase1Effect s p u) : ClockKept s u := by
  cases h <;> constructor <;> rfl

theorem MissedEffect.clockKept {s u : State} (h : MissedEffect s u) : ClockKept s u := by
  obtain ⟨c, n, count⟩ := countRetry_frame { s with stsNack := true }
  cases h <;> constructor <;> simp [zeroRetry_eq, count]

theorem Phase3Effect.clockKept {p : ProtoState} {s u : State} (h : Phase3Effect s p u) : ClockKept s u := by
  obtain ⟨ds, n, drawn⟩ := drawPeer_frame s
  cases h with
  | acked => constructor <;> simp [ackTaken, zeroRetry_eq, drawn]
  | missed _ _ _ _ _ _ outcome =>
    obtain ⟨phase, dir, lvl⟩ := outcome.clockKept
    rw [drawn] at phase dir lvl
    exact ⟨phase, dir, lvl⟩
  | byteIn => unfold completeByte; split <;> constructor <;> simp [pushIn_eq, drawn]
  | bitIn => constructor <;> simp [drawn]
  | _ => constructor <;> rfl

theorem Phase1Effect.capacity {p : ProtoState} {s u : State} (h : Phase1Effect s p u) (cap : WithinCapacity s) :
    WithinCapacity u := by
  obtain ⟨wf, out, inq⟩ := cap
  cases h with
  | popByte b q _ _ oldest =>
    rw [oldest] at out
    exact ⟨wf, (Nat.le_succ _).trans out, inq⟩
  | _ => exact ⟨wf, out, inq⟩

theorem MissedEffect.capacity {s u : State} (h : MissedEffect s u) (cap : WithinCapacity s) : WithinCapacity u := by
  obtain ⟨c, n, count⟩ := countRetry_frame { s with stsNack := true }
  obtain ⟨wf, out, inq⟩ := cap
  cases h with
  | aborted => rw [zeroRetry_eq]; exact ⟨wf, Nat.zero_le _, inq⟩
  | timedOut => exact ⟨wf, Nat.zero_le _, inq⟩
  | _ => rw [count]; exact ⟨wf, out, inq⟩

theorem completeByte_capacity (b : Byte) {s : State} (cap : WithinCapacity s) : WithinCapacity (completeByte b s) := by
  obtain ⟨wf, out, inq⟩ := cap
  have room := pushIn_length b s wf.2.2.1 inq
  rw [pushIn_eq] at room
  unfold completeByte
  split <;> rw [pushIn_eq] <;> exact ⟨wf, out, room⟩

theorem Phase3Effect.capacity {p : ProtoState} {s u : State} (h : Phase3Effect s p u) (cap : WithinCapacity s) :
    WithinCapacity u := by
  have capDrawn : WithinCapacity (drawPeer s).2 := by
    obtain ⟨ds, n, drawn⟩ := drawPeer_frame s
    rw [drawn]; exact cap
  cases h with
  | acked => rw [ackTaken, zeroRetry_eq]; exact capDrawn
  | missed _ _ _ _ _ _ outcome => exact outcome.capacity capDrawn
  | byteIn => exact completeByte_capacity _ capDrawn
  | bitIn => exact capDrawn
  | _ => exact cap

theorem retryBounded_of_zero {s : State} (h : s.retryCount = 0#16) : RetryBounded s := by
  unfold RetryBounded
  split
  · exact h
  · simp [h]; omega

theorem zeroRetry_bounded {s : State} (h : RetryBounded s) : RetryBounded (zeroRetry s) := by
  unfold zeroRetry
  by_cases limit : s.params.retryLimit = 0
  · rwa [if_pos limit]
  · rw [if_neg limit]; exact retryBounded_of_zero rfl

/-- Below the limit a counted failure keeps the bound: a free count (log entry 3) is drawn only under a limit that no
16-bit count reaches. -/
theorem countRetry_bounded {s : State} (below : retryLimitReached s = false) (h : RetryBounded s) :
    RetryBounded (countRetry s) := by
  obtain ⟨-, e⟩ | ⟨limit, full, e⟩ | ⟨limit, room, e⟩ := countRetry_cases s <;> rw [e]
  · exact h
  · have limit_large : 0x10000 < s.params.retryLimit := by simpa [retryLimitReached, limit, full] using below
    simp only [RetryBounded, limit, if_false]
    omega
  · have below : s.retryCount.toNat + 1 < s.params.retryLimit := by simpa [retryLimitReached, limit] using below
    simp only [RetryBounded, limit, if_false]
    bv_omega

theorem MissedEffect.retry {s u : State} (h : MissedEffect s u) (bound : RetryBounded s) : RetryBounded u := by
  have counted : retryLimitReached s = false → RetryBounded (countRetry { s with stsNack := true }) :=
    fun below => countRetry_bounded (s := { s with stsNack := true }) below bound
  cases h with
  | aborted => exact zeroRetry_bounded (s := { s with stsNack := true }) bound
  | timedOut => exact retryBounded_of_zero rfl
  | resent _ below => exact counted below
  | stopped _ below => exact counted below

theorem Phase1Effect.retry {p : ProtoState} {s u : State} (h : Phase1Effect s p u) (bound : RetryBounded s) :
    RetryBounded u := by
  cases h <;> exact bound

theorem Phase3Effect.retry {p : ProtoState} {s u : State} (h : Phase3Effect s p u) (bound : RetryBounded s) :
    RetryBounded u := by
  have boundDrawn : RetryBounded (drawPeer s).2 := by
    obtain ⟨ds, n, drawn⟩ := drawPeer_frame s
    rw [drawn]; exact bound
  cases h with
  | acked => exact zeroRetry_bounded (s := enter _ { (drawPeer s).2 with pendingState := none }) boundDrawn
  | missed _ _ _ _ _ _ outcome => exact outcome.retry boundDrawn
  | byteIn => unfold completeByte; split <;> rw [pushIn_eq] <;> exact boundDrawn
  | bitIn => exact boundDrawn
  | _ => exact bound

end Sys2Proof.Machine
end

section
/-! PROOFS. Every arrival keeps the invariant: O51. -/

namespace Sys2Proof.Machine

/-! ### The state's own clauses over a step -/

/-- Each sub-phase 1 action leads to a state whose clauses hold at sub-phase 2. -/
theorem Phase1Effect.stateInv {p : ProtoState} {s u : State} (h : Phase1Effect s p u) (state : s.protocolState = p.code)
    (phase : s.subPhase = 1#2) (expired : s.extraWait = 0#16) (here : StateInv s p) :
    ∃ q, u.protocolState = q.code ∧ StateInv (advance u) q := by
  cases h with
  | initiate work => exact ⟨.start, rfl, by simp_all [workPending]⟩
  | stayIdle => exact ⟨.idle, state, by simp_all⟩
  | start => simp_all
  | openAddressBit index => simp_all
  | lastAddressBit => exact ⟨.sendReadWriteBit, rfl, by simp_all [workPending]⟩
  | addressBit index =>
    have bound : (s.bitIndex + 1#3).toNat ≤ 6 := by bv_omega
    exact ⟨.sendAddress, state, by simp_all [workPending]⟩
  | directionRead empty => exact ⟨.waitForAcknowledge, rfl, by simp_all [openAckSlot, workPending]⟩
  | directionWrite queued => exact ⟨.waitForAcknowledge, rfl, by simp_all [openAckSlot]⟩
  | release => exact ⟨.waitForAcknowledge, state, by simp_all⟩
  | resendByte => exact ⟨.sendData, state, by simp_all⟩
  | popByte => exact ⟨.sendData, state, by simp_all⟩
  | dataBit notFirst notLast =>
    have inByte : s.bitIndex + 1#3 ≠ 0#3 := by bv_omega
    exact ⟨.sendData, state, by simp_all⟩
  | lastDataBit index => exact ⟨.waitForAcknowledge, rfl, by by_cases s.outQ = [] <;> simp_all [openAckSlot]⟩
  | beginByte => exact ⟨.receiveData, state, by simp_all⟩
  | receiveMore => exact ⟨.receiveData, state, by simp_all⟩
  | ack q pending =>
    obtain rfl : q = .receiveData := by simp_all
    exact ⟨.receiveData, rfl, by simp_all [masterAck]⟩
  | nack => exact ⟨.stop, rfl, by simp_all [masterAck]⟩
  | stop => exact ⟨.stop, state, by simp_all⟩

/-- A failed acknowledge leads to SendData with the byte to be sent again, or to Stop. -/
theorem MissedEffect.stateInv {s u : State} (h : MissedEffect s u) (phase : s.subPhase = 3#2)
    (high : s.sclLvl = true) (clear : s.waitFlag = false) (here : StateInv s .waitForAcknowledge) :
    ∃ q, u.protocolState = q.code ∧ StateInv (advance u) q := by
  obtain ⟨c, n, count⟩ := countRetry_frame { s with stsNack := true }
  cases h with
  | aborted => exact ⟨.stop, rfl, by simp_all [zeroRetry_eq]⟩
  | timedOut => exact ⟨.stop, rfl, by simp_all⟩
  | resent => exact ⟨.sendData, rfl, by simp_all⟩
  | stopped => exact ⟨.stop, rfl, by simp_all⟩

/-- Each sub-phase 3 action leads to a state whose clauses hold at sub-phase 0. -/
theorem Phase3Effect.stateInv {p : ProtoState} {s u : State} (h : Phase3Effect s p u) (state : s.protocolState = p.code)
    (phase : s.subPhase = 3#2) (high : s.sclLvl = true) (clear : s.waitFlag = false) (expired : s.extraWait = 0#16)
    (here : StateInv s p) :
    ∃ q, u.protocolState = q.code ∧ StateInv (advance u) q := by
  obtain ⟨ds, n, drawn⟩ := drawPeer_frame s
  cases h with
  | noAction p row => exact ⟨p, state, by cases p <;> simp_all [workPending]⟩
  | startEdge work => exact ⟨.sendAddress, rfl, by simp_all [workPending]⟩
  | startCancelled => exact ⟨.idle, rfl, by simp_all⟩
  | acked q pending => exact ⟨q, by simp [ackTaken, zeroRetry_eq], by cases q <;> simp_all [ackTaken, zeroRetry_eq]⟩
  | missed q u _ _ _ _ outcome =>
    rw [drawn] at outcome
    exact outcome.stateInv phase high clear here
  | byteIn _ index wanted =>
    unfold completeByte
    split
    · exact ⟨.sendNoAcknowledge, rfl, by simp_all [pushIn_eq]⟩
    · next more =>
      have left : s.pendingReceive - 1#16 ≠ 0#16 := by rw [drawn] at more; bv_omega
      exact ⟨.sendAcknowledge, rfl, by simp_all [pushIn_eq]⟩
  | bitIn => exact ⟨.receiveData, by simp [drawn, state], by simp_all⟩
  | stopEdge => exact ⟨.idle, rfl, by simp_all⟩

/-- A clock edge at sub-phase 0 or 2 keeps the state and its clauses. -/
theorem clockEdge_stateInv {p : ProtoState} {s : State} {v : Bool} (state : s.protocolState = p.code)
    (edge : s.subPhase = 0#2 ∧ v = false ∨ s.subPhase = 2#2 ∧ v = true) (expired : s.extraWait = 0#16)
    (here : StateInv s p) : StateInv (advance (clockEdge v s)) p := by
  obtain ⟨phase, rfl⟩ | ⟨phase, rfl⟩ := edge <;>
    rw [clockEdge_eq, inState_of_code state] <;> cases p <;> simp_all [workPending]

/-- A pause is armed only in a slot, in ReceiveData and in Stop, and is over at the next bit period. -/
theorem pause_stateInv {p : ProtoState} {s : State} (phase : s.subPhase = 3#2) (high : s.sclLvl = true)
    (armed : s.waitFlag = true) (expired : s.extraWait = 0#16) (here : StateInv s p) :
    StateInv (advance { s with waitFlag := false }) p := by
  cases p <;> simp_all

theorem TickEffect.stateInv {p : ProtoState} {s u : State} (h : TickEffect s p u) (state : s.protocolState = p.code)
    (expired : s.extraWait = 0#16) (clock : ClockDriven s) (here : StateInv s p) :
    ∃ q, u.protocolState = q.code ∧ StateInv (advance u) q := by
  obtain ⟨-, high⟩ := clock
  cases h with
  | clockLow phase =>
    exact ⟨p, by simp [clockEdge_eq, state], clockEdge_stateInv state (.inl ⟨phase, rfl⟩) expired here⟩
  | phase1 _ phase act => exact act.stateInv state phase expired here
  | clockHigh phase =>
    exact ⟨p, by simp [clockEdge_eq, state], clockEdge_stateInv state (.inr ⟨phase, rfl⟩) expired here⟩
  | pause phase armed => exact ⟨p, state, pause_stateInv phase (high phase) armed expired here⟩
  | phase3 _ phase clear act => exact act.stateInv state phase (high phase) clear expired here

/-- SCL is high at sub-phase 3: in Idle and Start at all times, and elsewhere from the edge of sub-phase 2. -/
theorem TickEffect.clockDriven {p : ProtoState} {s u : State} (h : TickEffect s p u) (state : s.protocolState = p.code)
    (clock : ClockDriven s) (here : StateInv s p) : ClockDriven (advance u) := by
  obtain ⟨dir, -⟩ := clock
  cases h with
  | clockLow phase => simp [ClockDriven, clockEdge_eq, phase, dir]
  | phase1 _ phase act =>
    obtain ⟨samePhase, sameDir, -⟩ := act.clockKept
    simp [ClockDriven, samePhase, phase, sameDir, dir]
  | clockHigh phase =>
    by_cases idle : p = .idle
    · subst idle
      obtain ⟨-, -, high, -⟩ := here
      simp [ClockDriven, clockEdge_eq, dir, high]
    · simp [ClockDriven, clockEdge_eq, inState_of_code state, idle]
  | pause phase => simp [ClockDriven, phase, dir]
  | phase3 _ phase _ act =>
    obtain ⟨samePhase, sameDir, -⟩ := act.clockKept
    simp [ClockDriven, samePhase, phase, sameDir, dir]

theorem TickEffect.sharedInv {p : ProtoState} {s u : State} (h : TickEffect s p u) (state : s.protocolState = p.code)
    (shared : SharedInv s) (here : StateInv s p) : SharedInv (advance u) := by
  obtain ⟨clock, capacity, retry⟩ := shared
  refine ⟨h.clockDriven state clock here, ?_, ?_⟩
  · cases h with
    | phase1 _ _ act => exact act.capacity capacity
    | phase3 _ _ _ act => exact act.capacity capacity
    | pause => exact capacity
    | _ => rw [clockEdge_eq]; exact capacity
  · cases h with
    | phase1 _ _ act => exact act.retry retry
    | phase3 _ _ _ act => exact act.retry retry
    | pause => exact retry
    | _ => rw [clockEdge_eq]; exact retry

/-- Every effect of a command keeps to the capacities (R60 to R62). -/
theorem HostEffect.capacity {i : Instr} {s u : State} (h : HostEffect s i u) (cap : WithinCapacity s) :
    WithinCapacity u := by
  obtain ⟨wf, out, inq⟩ := cap
  have outRoom := wf.1
  cases h with
  | append b room => exact ⟨wf, by simpa using room, inq⟩
  | overwrite b full => exact ⟨wf, by simp; omega, inq⟩
  | pop b q oldest =>
    rw [oldest] at inq
    exact ⟨wf, out, (Nat.le_succ _).trans inq⟩
  | _ => exact ⟨wf, out, inq⟩

/-- The clauses of a state are about what a command leaves alone, and about work that no command takes away. -/
theorem BusKept.stateInv {p : ProtoState} {s u : State} (kept : BusKept s u) (here : StateInv s p) : StateInv u p := by
  have wanted : s.pendingReceive ≠ 0#16 → u.pendingReceive ≠ 0#16 := by
    have := kept.pendingReceive; bv_omega
  have queued := kept.outQ
  have work : workPending s = true → workPending u = true := by
    simp only [workPending, decide_eq_true_eq]; exact Or.imp queued wanted
  cases p <;> simp_all [kept.subPhase, kept.bitIndex, kept.waitFlag, kept.extraWait, kept.pendingState, kept.resend,
    kept.sclLvl, kept.sdaDir, kept.sdaLvl]
  grind

theorem command_inv {i : Instr} {s u : State} (ok : Bool) (data : CmdWord) (h : HostEffect s i u) (inv : Inv s) :
    Inv (respond ok data u) := by
  obtain ⟨p, state⟩ := legalCode_names_state _ inv.code
  have kept := h.busKept
  have clock : ClockDriven u := by rw [ClockDriven, kept.sclDir, kept.sclLvl, kept.subPhase]; exact inv.clock
  have retry : RetryBounded u := by rw [RetryBounded, kept.params, kept.retryCount]; exact inv.retry
  have keptAnswered : BusKept s (respond ok data u) := { kept with }
  exact (keptAnswered.stateInv (inv.stateInv state)).inv (kept.protocolState.trans state)
    ⟨clock, h.capacity inv.capacity, retry⟩

/-- R120: the extra wait counts down inside its window, in SendAddress or in Stop. -/
theorem consumed_inv {s : State} (running : s.extraWait ≠ 0#16) (inv : Inv s) :
    Inv { s with extraWait := s.extraWait - 1#16 } := by
  obtain ⟨p, state⟩ := legalCode_names_state _ inv.code
  have here := inv.stateInv state
  refine StateInv.inv (p := p) state ⟨inv.clock, inv.capacity, inv.retry⟩ ?_
  cases p <;> simp_all [workPending]

theorem applyReset_inv {s : State} (wf : s.params.wf) : Inv (applyReset s) :=
  StateInv.inv (p := .idle) rfl
    ⟨⟨rfl, fun _ => rfl⟩, ⟨wf, Nat.zero_le _, Nat.zero_le _⟩, retryBounded_of_zero rfl⟩
    ⟨rfl, ⟨rfl, rfl, rfl, rfl⟩, rfl, rfl, rfl⟩

/-- Every answered arrival keeps the invariant. -/
theorem arrive_inv {e : PortEvent} {s t : State} (inv : Inv s) (answer : arrive e s = .next t) : Inv t := by
  cases arrive_effect answer with
  | command w u ok data effect => exact command_inv ok data effect inv
  | consumed running => exact consumed_inv running inv
  | acted p u expired state effect =>
    have here := inv.stateInv state
    obtain ⟨q, next, there⟩ := effect.stateInv state expired inv.clock here
    exact there.inv next (effect.sharedInv state ⟨inv.clock, inv.capacity, inv.retry⟩ here)
  | reset => exact applyReset_inv inv.capacity.1

/-- Taking an arrival off the list touches nothing the invariant is about. -/
theorem takeEvent_inv {s : State} (inv : Inv s) : Inv (takeEvent s).2 := by
  obtain ⟨es, n, taken⟩ := takeEvent_frame s
  obtain ⟨p, state⟩ := legalCode_names_state _ inv.code
  have here := inv.stateInv state
  rw [taken]
  exact StateInv.inv (p := p) state ⟨inv.clock, inv.capacity, inv.retry⟩ (by cases p <;> exact here)

/-- Settles O51: the invariant is read for the one state the block is in, and every arrival leads to a state whose own
clauses hold. -/
theorem stepKeepsInvariant : Obligations.StepKeepsInvariant :=
  fun _ _ inv answer => arrive_inv (takeEvent_inv inv) answer

end Sys2Proof.Machine
end

section
/-! PROOFS. The statements about arrivals and the two queues: O7, O8, O16 and O48. -/

namespace Sys2Proof.Machine

/-! ### The arrival a step takes -/

/-- A listed arrival is taken off the list and runs as it is (R70). -/
theorem step_listed {s : State} {e : PortEvent} {es : List PortEvent} (listed : s.input = e :: es) :
    step s = arrive e { s with input := es } := by
  rw [step, takeEvent_listed s e es listed]

/-- Settles O7: a listed arrival is taken, and a command or a tick then runs its decoded row. -/
theorem stepRunsDecodedInstruction : Obligations.StepRunsDecodedInstruction :=
  ⟨fun _ _ _ listed => step_listed listed, fun _ _ listed => step_listed listed⟩

/-! ### A tick comes -/

/-- A command and `rst` always complete and leave the arrivals to come as they are. -/
theorem hostArrival_completes {e : PortEvent} (host : e ≠ .tick) (s : State) :
    ∃ t, arrive e s = .next t ∧ t.input = s.input := by
  cases e with
  | tick => exact absurd rfl host
  | command w =>
    obtain ⟨u, ok, data, answer, -, effect⟩ := exec_command_effect _ s (isCommand_decodeCommand w)
    exact ⟨respond ok data u, answer, effect.busKept.input⟩
  | rst => exact ⟨_, rfl, rfl⟩

/-- Some number of completing steps leads to a state whose next arrival is a tick (R131). -/
def TickComes (s : State) : Prop := ∃ (n : Nat) (t : State), runSteps n s = .next t ∧ (takeEvent t).1 = .tick

theorem tickComes_now {s : State} (tick : (takeEvent s).1 = .tick) : TickComes s := ⟨0, s, rfl, tick⟩

/-- The next arrival is the tick, or its step completes and hands the rest of the arrivals on. -/
theorem tickComes_of_rest {s : State} (rest : ∀ t : State, t.input = (takeEvent s).2.input → TickComes t) :
    TickComes s := by
  by_cases next : (takeEvent s).1 = .tick
  · exact tickComes_now next
  · obtain ⟨t, answer, kept⟩ := hostArrival_completes next (takeEvent s).2
    obtain ⟨n, u, run, tick⟩ := rest t kept
    have stepped : step s = .next t := answer
    exact ⟨n + 1, u, (repeatStep_succ n stepped).trans run, tick⟩

/-- If a tick comes once only `rest` is left to arrive, it comes with any arrivals listed before that. -/
theorem tickComes_of_append {rest : List PortEvent} (last : ∀ s : State, s.input = rest → TickComes s)
    (es : List PortEvent) : ∀ s : State, s.input = es ++ rest → TickComes s := by
  induction es with
  | nil => exact last
  | cons e es ih =>
    intro s listed
    refine tickComes_of_rest fun t kept => ih t ?_
    rw [kept, takeEvent_listed s e (es ++ rest) listed]

/-- With none listed, the host steps that come up are a list with a tick behind it (log entry 4). -/
theorem tickComes_of_none_listed (s : State) (empty : s.input = []) : TickComes s := by
  cases free : Config.hostSteps s.freeCount with
  | nil => exact tickComes_now (by rw [takeEvent_tick s empty free])
  | cons e es =>
    have behind : ∀ t : State, t.input = [.tick] → TickComes t :=
      fun t listed => tickComes_now (by rw [takeEvent_listed t _ _ listed])
    refine tickComes_of_rest fun t kept => tickComes_of_append behind es t ?_
    rw [kept, takeEvent_host s e es empty free]

/-- Settles O8: the first clause by the free list, the second by induction on the list of arrivals. -/
theorem stepTakesFreeArrival : Obligations.StepTakesFreeArrival := by
  refine ⟨fun s empty => ?_,
    fun s => tickComes_of_append tickComes_of_none_listed s.input s (List.append_nil _).symm⟩
  cases free : Config.hostSteps s.freeCount with
  | nil => rw [step, takeEvent_tick s empty free]
  | cons e es => rw [step, takeEvent_host s e es empty free]

/-! ### The queues -/

/-- Settles O16: WRITE answers what `PushOut` says of the byte. -/
theorem writeAppendsOrOverflows : Obligations.WriteAppendsOrOverflows := by
  intro b s
  change execWrite b s = _
  obtain ⟨room, e⟩ | ⟨full, policy, e⟩ | ⟨full, policy, e⟩ := pushOut_cases b s
  · simp [execWrite, e, respond, room]
  · simp [execWrite, e, respond, not_lt.mpr full, policy]
  · simp [execWrite, e, respond, not_lt.mpr full, policy]

/-- What a command can do to `outQ`: only WRITE appends, and the oldest byte gives way only in a full queue under
Overwrite (R62). -/
theorem HostEffect.outQ {i : Instr} {s u : State} (h : HostEffect s i u) :
    u.outQ = s.outQ
    ∨ ∃ b, i = .write b
        ∧ ((s.outQ.length < s.params.outqCap ∧ u.outQ = s.outQ ++ [b])
          ∨ (s.params.outqCap ≤ s.outQ.length ∧ s.cfgOvfPolicy = true ∧ u.outQ = s.outQ.drop 1 ++ [b])) := by
  cases h with
  | append b room => exact .inr ⟨b, rfl, .inl ⟨room, rfl⟩⟩
  | overwrite b full policy => exact .inr ⟨b, rfl, .inr ⟨full, policy, by rw [List.drop_one]⟩⟩
  | _ => exact .inl rfl

/-- Of the commands only POPRX takes from `inQ`, and it takes the oldest byte (R64, R104). -/
theorem HostEffect.inQ {i : Instr} {s u : State} (h : HostEffect s i u) :
    u.inQ = s.inQ ∨ i = .poprx ∧ ∃ b, s.inQ = b :: u.inQ := by
  cases h with
  | pop b q oldest => exact .inr ⟨rfl, b, oldest⟩
  | _ => exact .inl rfl

/-- Of the sub-phase 1 actions only the pop of SendData at bit 0 touches a queue (R64, R145). -/
theorem Phase1Effect.queues {p : ProtoState} {s u : State} (h : Phase1Effect s p u) :
    u.inQ = s.inQ
    ∧ (u.outQ = s.outQ
      ∨ p = .sendData ∧ s.bitIndex = 0#3 ∧ s.resend = false ∧ s.outQ = u.shiftByte :: u.outQ) := by
  cases h with
  | popByte b q first fresh oldest => exact ⟨rfl, .inr ⟨rfl, first, fresh, oldest⟩⟩
  | _ => exact ⟨rfl, .inl rfl⟩

/-- A failed acknowledge keeps the queues, or flushes `outQ` under Abort or at the retry limit (R161, R166). -/
theorem MissedEffect.queues {s u : State} (h : MissedEffect s u) :
    u.inQ = s.inQ
    ∧ (u.outQ = s.outQ ∨ (s.cfgAckPolicy = false ∨ retryLimitReached s = true) ∧ u.outQ = []) := by
  obtain ⟨c, n, count⟩ := countRetry_frame { s with stsNack := true }
  cases h with
  | aborted policy => exact ⟨by simp [zeroRetry_eq], .inr ⟨.inl policy, rfl⟩⟩
  | timedOut _ limit => exact ⟨rfl, .inr ⟨.inr limit, rfl⟩⟩
  | resent => rw [count]; exact ⟨rfl, .inl rfl⟩
  | stopped => rw [count]; exact ⟨rfl, .inl rfl⟩

/-- A completed byte goes behind the others, and the oldest gives way at capacity (R63, R162). -/
theorem completeByte_queues (b : Byte) (s : State) :
    (completeByte b s).outQ = s.outQ ∧ (completeByte b s).shiftByte = b
    ∧ (completeByte b s).inQ = (if s.inQ.length = s.params.inqCap then s.inQ.drop 1 else s.inQ) ++ [b] := by
  unfold completeByte; split <;> simp [pushIn_eq]

/-- Of the sub-phase 3 actions only the flush of a failed acknowledge touches `outQ` (R166). -/
theorem Phase3Effect.outQ {p : ProtoState} {s u : State} (h : Phase3Effect s p u) :
    u.outQ = s.outQ
    ∨ p = .waitForAcknowledge ∧ (drawPeer s).1 = true ∧ s.cfgIgnoreAck = false
      ∧ (s.cfgAckPolicy = false ∨ retryLimitReached s = true) ∧ u.outQ = [] := by
  obtain ⟨ds, n, drawn⟩ := drawPeer_frame s
  cases h with
  | acked => simp [ackTaken, zeroRetry_eq, drawn]
  | missed _ _ _ _ nack heeded outcome =>
    obtain ⟨-, kept | ⟨cause, flushed⟩⟩ := outcome.queues
    · exact .inl (by rw [kept, drawn])
    · rw [drawn] at cause
      exact .inr ⟨rfl, nack, heeded, cause, flushed⟩
  | byteIn => exact .inl (by rw [(completeByte_queues _ _).1, drawn])
  | bitIn => exact .inl (by rw [drawn])
  | _ => exact .inl rfl

/-- Of the sub-phase 3 actions only a completed byte touches `inQ` (R63). -/
theorem Phase3Effect.inQ {p : ProtoState} {s u : State} (h : Phase3Effect s p u) :
    u.inQ = s.inQ
    ∨ p = .receiveData ∧ s.bitIndex = 7#3
      ∧ u.inQ = (if s.inQ.length = s.params.inqCap then s.inQ.drop 1 else s.inQ) ++ [u.shiftByte] := by
  obtain ⟨ds, n, drawn⟩ := drawPeer_frame s
  cases h with
  | acked => simp [ackTaken, zeroRetry_eq, drawn]
  | missed _ _ _ _ _ _ outcome => exact .inl (by rw [outcome.queues.1, drawn])
  | byteIn _ index =>
    obtain ⟨-, byte, queued⟩ := completeByte_queues (withDataBit s.shiftByte s.bitIndex (drawPeer s).1) (drawPeer s).2
    refine .inr ⟨rfl, index, ?_⟩
    rw [queued, byte, drawn]
  | bitIn => exact .inl (by rw [drawn])
  | _ => exact .inl rfl

/-- A tick changes `outQ` by the pop at sub-phase 1 or by the flush at sub-phase 3 (R64, R166). -/
theorem TickEffect.outQ {p : ProtoState} {s u : State} (h : TickEffect s p u) :
    u.outQ = s.outQ
    ∨ (p = .sendData ∧ s.subPhase = 1#2 ∧ s.bitIndex = 0#3 ∧ s.resend = false ∧ s.outQ = u.shiftByte :: u.outQ)
    ∨ (p = .waitForAcknowledge ∧ s.subPhase = 3#2 ∧ s.waitFlag = false ∧ (drawPeer s).1 = true
        ∧ s.cfgIgnoreAck = false ∧ (s.cfgAckPolicy = false ∨ retryLimitReached s = true) ∧ u.outQ = []) := by
  cases h with
  | phase1 _ phase act =>
    obtain kept | ⟨state, popped⟩ := act.queues.2
    · exact .inl kept
    · exact .inr (.inl ⟨state, phase, popped⟩)
  | phase3 _ phase clear act =>
    obtain kept | ⟨state, flushed⟩ := act.outQ
    · exact .inl kept
    · exact .inr (.inr ⟨state, phase, clear, flushed⟩)
  | pause => exact .inl rfl
  | _ => simp [clockEdge_eq]

/-- A tick changes `inQ` only by the append of a completed byte at sub-phase 3 (R63). -/
theorem TickEffect.inQ {p : ProtoState} {s u : State} (h : TickEffect s p u) :
    u.inQ = s.inQ
    ∨ p = .receiveData ∧ s.subPhase = 3#2 ∧ s.waitFlag = false ∧ s.bitIndex = 7#3
      ∧ u.inQ = (if s.inQ.length = s.params.inqCap then s.inQ.drop 1 else s.inQ) ++ [u.shiftByte] := by
  cases h with
  | phase1 _ _ act => exact .inl act.queues.1
  | phase3 _ phase clear act =>
    obtain kept | ⟨state, queued⟩ := act.inQ
    · exact .inl kept
    · exact .inr ⟨state, phase, clear, queued⟩
  | pause => exact .inl rfl
  | _ => simp [clockEdge_eq]

/-- Settles O48: a command and a tick each change a queue only as its own law says. -/
theorem queuesChangeOnlyByTheirOwners : Obligations.QueuesChangeOnlyByTheirOwners := by
  intro s t e answer notReset acts
  cases arrive_effect answer with
  | reset => exact absurd rfl notReset
  | consumed => exact ⟨absurd rfl, absurd rfl⟩
  | command w u ok data effect =>
    refine ⟨fun change => ?_, fun change => ?_⟩
    · obtain ⟨b, write, written⟩ := effect.outQ.resolve_left change
      exact .inl ⟨w, b, rfl, write, written⟩
    · obtain ⟨poprx, b, oldest⟩ := effect.inQ.resolve_left change
      exact .inl ⟨w, b, rfl, poprx, oldest⟩
  | acted p u expired state effect =>
    refine ⟨fun change => .inr ?_, fun change => .inr ?_⟩
    · obtain ⟨rfl, phase, popped⟩ | ⟨rfl, phase, clear, nack, heeded, cause, flushed⟩ :=
        effect.outQ.resolve_left change
      · exact .inl ⟨⟨rfl, expired, state, phase⟩, popped⟩
      · exact .inr ⟨⟨rfl, expired, state, phase⟩, clear, nack, heeded, cause.imp_right of_decide_eq_true, flushed⟩
    · obtain ⟨rfl, phase, clear, index, queued⟩ := effect.inQ.resolve_left change
      refine ⟨⟨rfl, expired, state, phase⟩, clear, index, ?_⟩
      by_cases full : s.inQ.length = s.params.inqCap
      · rw [if_pos full] at queued; exact .inr ⟨full, queued⟩
      · rw [if_neg full] at queued; exact .inl ⟨full, queued⟩

end Sys2Proof.Machine
end

section
/-! SUPPORT. The two encoded forms by their parts: a tick key by its four fields and the family of the row it selects,
and a command word by its opcode, its must-be-0 bits and its operand. -/

namespace Sys2Proof

open Sys2Proof.Machine

/-! ### Tick keys, by their fields -/

/-- What a key can be (R87): a closed gate, a reserved code of one of two rows, or an open gate in a named state. -/
inductive KeyCase : TickKey → Prop where
  | consumed (wf : Bool) (st : StateCode) (ph : Phase) : KeyCase (keyOf true wf st ph)
  | reserved1011 (wf : Bool) (c : BitVec 1) (ph : Phase) : KeyCase (keyOf false wf (0b101#3 ++ c) ph)
  | reserved1215 (wf : Bool) (c : BitVec 2) (ph : Phase) : KeyCase (keyOf false wf (0b11#2 ++ c) ph)
  | named (wf : Bool) (p : ProtoState) (ph : Phase) : KeyCase (keyOf false wf p.code ph)

/-- A key is made of its four fields. -/
theorem keyOf_fields (k : TickKey) :
    keyOf (k.getLsbD 7) (k.getLsbD 6) (k.extractLsb' 2 4) (k.extractLsb' 0 2) = k := by
  revert k; decide

/-- The reserved codes are 10 and 11, and 12 to 15 (R88). -/
theorem reservedCode_cases (st : StateCode) (h : 10 ≤ st.toNat) :
    (∃ c : BitVec 1, st = 0b101#3 ++ c) ∨ ∃ c : BitVec 2, st = 0b11#2 ++ c := by
  revert st; decide

theorem keyCase (k : TickKey) : KeyCase k := by
  rw [← keyOf_fields k]
  generalize k.extractLsb' 2 4 = st
  cases k.getLsbD 7 with
  | true => exact .consumed ..
  | false =>
    by_cases legal : st.toNat < 10
    · obtain ⟨p, rfl⟩ := legalCode_names_state st legal
      exact .named ..
    · obtain ⟨c, rfl⟩ | ⟨c, rfl⟩ := reservedCode_cases st (not_lt.mp legal)
      · exact .reserved1011 ..
      · exact .reserved1215 ..

@[simp] theorem decodeKey_consumed (wf : Bool) (st : StateCode) (ph : Phase) :
    decodeKey (keyOf true wf st ph) = .tickConsume wf st ph := by
  simp only [decodeKey, keyOf_gate, keyOf_waitFlag, keyOf_code, keyOf_phase, if_true]

/-- With the gate open a reserved code selects its own row (R87 priority 2). -/
theorem decodeKey_reserved (wf : Bool) (st : StateCode) (ph : Phase) (h : 10 ≤ st.toNat) :
    decodeKey (keyOf false wf st ph) = reservedRow wf st ph := by
  simp only [decodeKey, keyOf_gate, keyOf_waitFlag, keyOf_code, keyOf_phase, stateOfCode_reserved st h]
  rfl

@[simp] theorem decodeKey_reserved1011 (wf : Bool) (c : BitVec 1) (ph : Phase) :
    decodeKey (keyOf false wf (0b101#3 ++ c) ph) = .tickReserved1011 wf c ph := by
  rw [decodeKey_reserved _ _ _ (by revert c; decide)]
  revert wf c ph; decide

@[simp] theorem decodeKey_reserved1215 (wf : Bool) (c : BitVec 2) (ph : Phase) :
    decodeKey (keyOf false wf (0b11#2 ++ c) ph) = .tickReserved1215 wf c ph := by
  rw [decodeKey_reserved _ _ _ (by revert c; decide)]
  revert wf c ph; decide

@[simp] theorem decodeKey_named (wf : Bool) (p : ProtoState) (ph : Phase) :
    decodeKey (keyOf false wf p.code ph) = openGateRow wf p.code ph p := by
  simp only [decodeKey, keyOf_gate, keyOf_waitFlag, keyOf_code, keyOf_phase, stateOfCode_code]
  rfl

theorem phase_cases (ph : Phase) : ph = 0#2 ∨ ph = 1#2 ∨ ph = 2#2 ∨ ph = 3#2 := by
  revert ph; decide

@[simp] theorem legalCode_code (p : ProtoState) : legalCode p.code = true := by cases p <;> rfl

theorem encode_phase1Row (wf : Bool) (p : ProtoState) :
    encode (phase1Row wf p) = .key (keyOf false wf p.code 1#2) := by
  cases p <;> rfl

theorem encode_phase3Row (p : ProtoState) : encode (phase3Row p) = .key (keyOf false false p.code 3#2) := by
  cases p <;> rfl

theorem phase1Row_wf (wf : Bool) (p : ProtoState) : (phase1Row wf p).wf = true := by cases p <;> rfl

theorem phase3Row_wf (p : ProtoState) : (phase3Row p).wf = true := by cases p <;> rfl

/-- The row of an open gate keeps every bit of its key. -/
theorem encode_openGateRow (wf : Bool) (p : ProtoState) (ph : Phase) :
    encode (openGateRow wf p.code ph p) = .key (keyOf false wf p.code ph) := by
  obtain rfl | rfl | rfl | rfl := phase_cases ph
  · rfl
  · exact encode_phase1Row wf p
  · rfl
  · cases wf with
    | true => rfl
    | false => exact encode_phase3Row p

theorem openGateRow_wf (wf : Bool) (p : ProtoState) (ph : Phase) : (openGateRow wf p.code ph p).wf = true := by
  obtain rfl | rfl | rfl | rfl := phase_cases ph
  · exact legalCode_code p
  · exact phase1Row_wf wf p
  · exact legalCode_code p
  · cases wf with
    | true => exact legalCode_code p
    | false => exact phase3Row_wf p

/-- Every key is the encoding of the well-formed row it selects. -/
theorem encode_decodeKey (k : TickKey) : encode (decodeKey k) = .key k ∧ (decodeKey k).wf = true := by
  cases keyCase k with
  | consumed wf st ph => rw [decodeKey_consumed]; exact ⟨rfl, rfl⟩
  | reserved1011 wf c ph => rw [decodeKey_reserved1011]; exact ⟨rfl, rfl⟩
  | reserved1215 wf c ph => rw [decodeKey_reserved1215]; exact ⟨rfl, rfl⟩
  | named wf p ph => rw [decodeKey_named]; exact ⟨encode_openGateRow wf p ph, openGateRow_wf wf p ph⟩

/-! ### The tick rows -/

/-- The families of the tick rows (R87): the rows of sub-phase 1 and of sub-phase 3 by the state they belong to. -/
inductive TickRow : Instr → Prop where
  | consume (wf : Bool) (st : StateCode) (ph : Phase) : TickRow (.tickConsume wf st ph)
  | reserved1011 (wf : Bool) (c : BitVec 1) (ph : Phase) : TickRow (.tickReserved1011 wf c ph)
  | reserved1215 (wf : Bool) (c : BitVec 2) (ph : Phase) : TickRow (.tickReserved1215 wf c ph)
  | clockLow (wf : Bool) (st : StateCode) : TickRow (.tickP0 wf st)
  | clockHigh (wf : Bool) (st : StateCode) : TickRow (.tickP2 wf st)
  | pause (st : StateCode) : TickRow (.tickP3Pause st)
  | phase1 (wf : Bool) (p : ProtoState) : TickRow (phase1Row wf p)
  | phase3 (p : ProtoState) : TickRow (phase3Row p)

theorem tickRow_of_not_command {i : Instr} (h : isCommand i = false) : TickRow i := by
  cases i with
  | tickConsume wf st ph => exact .consume wf st ph
  | tickReserved1011 wf c ph => exact .reserved1011 wf c ph
  | tickReserved1215 wf c ph => exact .reserved1215 wf c ph
  | tickP0 wf st => exact .clockLow wf st
  | tickP2 wf st => exact .clockHigh wf st
  | tickP3Pause st => exact .pause st
  | idleP1 wf => exact .phase1 wf .idle
  | startP1 wf => exact .phase1 wf .start
  | saddrP1 wf => exact .phase1 wf .sendAddress
  | srwP1 wf => exact .phase1 wf .sendReadWriteBit
  | wackP1 wf => exact .phase1 wf .waitForAcknowledge
  | sdataP1 wf => exact .phase1 wf .sendData
  | rdataP1 wf => exact .phase1 wf .receiveData
  | sackP1 wf => exact .phase1 wf .sendAcknowledge
  | snackP1 wf => exact .phase1 wf .sendNoAcknowledge
  | stopP1 wf => exact .phase1 wf .stop
  | idleP3 => exact .phase3 .idle
  | startP3 => exact .phase3 .start
  | saddrP3 => exact .phase3 .sendAddress
  | srwP3 => exact .phase3 .sendReadWriteBit
  | wackP3 => exact .phase3 .waitForAcknowledge
  | sdataP3 => exact .phase3 .sendData
  | rdataP3 => exact .phase3 .receiveData
  | sackP3 => exact .phase3 .sendAcknowledge
  | snackP3 => exact .phase3 .sendNoAcknowledge
  | stopP3 => exact .phase3 .stop
  | _ => cases h

theorem code_of_legalCode {st : StateCode} (h : legalCode st = true) : ∃ p : ProtoState, st = p.code :=
  legalCode_names_state st (of_decide_eq_true h)

/-- The key of a well-formed tick row selects that row. -/
theorem TickRow.decode_encode {i : Instr} (row : TickRow i) (wf : i.wf = true) : decode (encode i) = i := by
  cases row with
  | consume w st ph => exact decodeKey_consumed w st ph
  | reserved1011 w c ph => exact decodeKey_reserved1011 w c ph
  | reserved1215 w c ph => exact decodeKey_reserved1215 w c ph
  | clockLow w st => obtain ⟨p, rfl⟩ := code_of_legalCode wf; exact decodeKey_named w p 0#2
  | clockHigh w st => obtain ⟨p, rfl⟩ := code_of_legalCode wf; exact decodeKey_named w p 2#2
  | pause st => obtain ⟨p, rfl⟩ := code_of_legalCode wf; exact decodeKey_named true p 3#2
  | phase1 w p => rw [encode_phase1Row]; exact decodeKey_named w p 1#2
  | phase3 p => rw [encode_phase3Row]; exact decodeKey_named false p 3#2

/-! ### The fixed bits of the tick rows -/

section
variable (g w : Bool) (st : StateCode) (ph : Phase)

@[simp] theorem fitsRow_tickConsume (w' : Bool) (st' : StateCode) (ph' : Phase) :
    fitsRow (.tickConsume w' st' ph') (.key (keyOf g w st ph)) = true ↔ g = true := by
  change fitsRow (.tickConsume false 0#4 0#2) _ = true ↔ _; revert g w st ph; decide

@[simp] theorem fitsRow_tickReserved1011 (w' : Bool) (c' : BitVec 1) (ph' : Phase) :
    fitsRow (.tickReserved1011 w' c' ph') (.key (keyOf g w st ph)) = true
      ↔ g = false ∧ ∃ c : BitVec 1, st = 0b101#3 ++ c := by
  change fitsRow (.tickReserved1011 false 0#1 0#2) _ = true ↔ _; revert g w st ph; decide

@[simp] theorem fitsRow_tickReserved1215 (w' : Bool) (c' : BitVec 2) (ph' : Phase) :
    fitsRow (.tickReserved1215 w' c' ph') (.key (keyOf g w st ph)) = true
      ↔ g = false ∧ ∃ c : BitVec 2, st = 0b11#2 ++ c := by
  change fitsRow (.tickReserved1215 false 0#2 0#2) _ = true ↔ _; revert g w st ph; decide

@[simp] theorem fitsRow_tickP0 (w' : Bool) (st' : StateCode) :
    fitsRow (.tickP0 w' st') (.key (keyOf g w st ph)) = true ↔ g = false ∧ ph = 0#2 := by
  change fitsRow (.tickP0 false 0#4) _ = true ↔ _; revert g w st ph; decide

@[simp] theorem fitsRow_tickP2 (w' : Bool) (st' : StateCode) :
    fitsRow (.tickP2 w' st') (.key (keyOf g w st ph)) = true ↔ g = false ∧ ph = 2#2 := by
  change fitsRow (.tickP2 false 0#4) _ = true ↔ _; revert g w st ph; decide

@[simp] theorem fitsRow_tickP3Pause (st' : StateCode) :
    fitsRow (.tickP3Pause st') (.key (keyOf g w st ph)) = true ↔ g = false ∧ w = true ∧ ph = 3#2 := by
  change fitsRow (.tickP3Pause 0#4) _ = true ↔ _; revert g w st ph; decide

@[simp] theorem fitsRow_phase1Row (w' : Bool) (p : ProtoState) :
    fitsRow (phase1Row w' p) (.key (keyOf g w st ph)) = true ↔ g = false ∧ st = p.code ∧ ph = 1#2 := by
  cases p <;> revert g w st ph w' <;> decide

@[simp] theorem fitsRow_phase3Row (p : ProtoState) :
    fitsRow (phase3Row p) (.key (keyOf g w st ph)) = true ↔ g = false ∧ w = false ∧ st = p.code ∧ ph = 3#2 := by
  cases p <;> revert g w st ph <;> decide

end

@[simp] theorem rowPriority_phase1Row (wf : Bool) (p : ProtoState) : rowPriority (phase1Row wf p) = 6 := by
  cases p <;> rfl

@[simp] theorem rowPriority_phase3Row (p : ProtoState) : rowPriority (phase3Row p) = 7 := by cases p <;> rfl

/-- The selected row has the key's fixed bits. -/
theorem fitsRow_decodeKey (k : TickKey) : fitsRow (decodeKey k) (.key k) = true := by
  cases keyCase k with
  | consumed => simp
  | reserved1011 => simp
  | reserved1215 => simp
  | named wf p ph =>
    obtain rfl | rfl | rfl | rfl := phase_cases ph
    · simp [openGateRow]
    · simp [openGateRow]
    · simp [openGateRow]
    · cases wf <;> simp [openGateRow]

theorem code_ne_reserved1011 (p : ProtoState) (c : BitVec 1) : p.code ≠ 0b101#3 ++ c := by
  cases p <;> revert c <;> decide

theorem code_ne_reserved1215 (p : ProtoState) (c : BitVec 2) : p.code ≠ 0b11#2 ++ c := by
  cases p <;> revert c <;> decide

theorem tableMatchMask_phase1Row (w wf : Bool) (p : ProtoState) :
    tableMatchMask (phase1Row w p) = tableMatchMask (phase1Row wf p) := by
  cases p <;> rfl

/-- With the gate open in a named state the fixed bits of one row alone fit the key (R87 priorities 3 to 7). -/
theorem openGateRow_only {i : Instr} (row : TickRow i) {wf : Bool} {p : ProtoState} {ph : Phase}
    (fits : fitsRow i (.key (keyOf false wf p.code ph)) = true) :
    tableMatchMask i = tableMatchMask (openGateRow wf p.code ph p) := by
  cases row with
  | consume => simp at fits
  | reserved1011 => simp [code_ne_reserved1011] at fits
  | reserved1215 => simp [code_ne_reserved1215] at fits
  | clockLow => obtain ⟨-, rfl⟩ := (fitsRow_tickP0 ..).mp fits; rfl
  | clockHigh => obtain ⟨-, rfl⟩ := (fitsRow_tickP2 ..).mp fits; rfl
  | pause => obtain ⟨-, rfl, rfl⟩ := (fitsRow_tickP3Pause ..).mp fits; rfl
  | phase1 w q =>
    obtain ⟨-, state, rfl⟩ := (fitsRow_phase1Row ..).mp fits
    rw [code_injective state]
    exact tableMatchMask_phase1Row w wf q
  | phase3 q =>
    obtain ⟨-, rfl, state, rfl⟩ := (fitsRow_phase3Row ..).mp fits
    rw [code_injective state]
    rfl

theorem reserved_codes_differ (c : BitVec 1) (d : BitVec 2) : 0b101#3 ++ c ≠ (0b11#2 ++ d : StateCode) := by
  revert c d; decide

/-- Behind the rows of the closed gate and of the reserved codes come those of the named states (R87). -/
theorem TickRow.priority_cases {i : Instr} (row : TickRow i) :
    (∃ wf st ph, i = .tickConsume wf st ph) ∨ (∃ wf c ph, i = .tickReserved1011 wf c ph)
      ∨ (∃ wf c ph, i = .tickReserved1215 wf c ph) ∨ 2 < rowPriority i := by
  cases row with
  | consume => exact .inl ⟨_, _, _, rfl⟩
  | reserved1011 => exact .inr (.inl ⟨_, _, _, rfl⟩)
  | reserved1215 => exact .inr (.inr (.inl ⟨_, _, _, rfl⟩))
  | phase1 | phase3 => exact .inr (.inr (.inr (by simp)))
  | _ => exact .inr (.inr (.inr (by simp [rowPriority])))

/-! ### Command words -/

/-- The row of an opcode below 0x8 on the word's operand fields, before its must-be-0 bits are looked at (R81). -/
def commandRow (w : CmdWord) : Instr :=
  match (opField w).toNat with
  | 0 => .nop
  | 1 => .setaddr (w.extractLsb' 0 7)
  | 2 => .write (w.extractLsb' 0 8)
  | 3 => .read (w.extractLsb' 0 12)
  | 4 => .poprx
  | 5 => .rdreg (w.extractLsb' 0 4)
  | 6 => .setcfg (w.getLsbD 0) (w.getLsbD 1) (w.getLsbD 2)
  | _ => .clrsts (w.extractLsb' 0 4)

theorem lowOp_cases (op : BitVec 4) (low : op.toNat < 8) :
    op = 0#4 ∨ op = 1#4 ∨ op = 2#4 ∨ op = 3#4 ∨ op = 4#4 ∨ op = 5#4 ∨ op = 6#4 ∨ op = 7#4 := by
  revert op; decide

/-- OP 0x8 to 0xF is reserved whatever the other bits (R82). -/
theorem decodeCommand_high {w : CmdWord} (high : 8 ≤ (opField w).toNat) :
    decodeCommand w = .reserved (w.extractLsb' 0 15) := by
  rw [opField] at high
  unfold decodeCommand
  split
  case h_9 => rfl
  all_goals omega

theorem unlessIllegal_zero (w : CmdWord) (i : Instr) : unlessIllegal 0#16 w i = i := by simp [unlessIllegal]

/-- Below 0x8 the one test is that of the must-be-0 bits (R81, R82). -/
theorem decodeCommand_low {w : CmdWord} (low : (opField w).toNat < 8) :
    decodeCommand w = unlessIllegal (mustBeZero (opField w)) w (commandRow w) := by
  unfold decodeCommand commandRow
  rw [← opField]
  obtain op | op | op | op | op | op | op | op := lowOp_cases _ low <;> rw [op]
  pick_goal 4
  · exact (unlessIllegal_zero w _).symm
  all_goals rfl

theorem append_extractLsb'_eq_self {a b : Nat} (w : BitVec (a + b)) : w.extractLsb' b a ++ w.extractLsb' 0 b = w := by
  rw [BitVec.extractLsb'_append_extractLsb'_eq_extractLsb' (Nat.zero_add b).symm]
  exact BitVec.extractLsb'_eq_self

/-- A word whose bits above the lowest `b` are those of `x` is `x` and its lowest `b` bits. -/
theorem append_operand_of_masked {a b : Nat} {w : BitVec (a + b)} {x : BitVec a}
    (fixed : w &&& (BitVec.allOnes a ++ 0#b) = x ++ 0#b) : x ++ w.extractLsb' 0 b = w := by
  rw [← append_extractLsb'_eq_self w, high_field] at fixed
  have high := congrArg (BitVec.extractLsb' b a) fixed
  rw [BitVec.extractLsb'_append_eq_left, BitVec.extractLsb'_append_eq_left] at high
  rw [← high, append_extractLsb'_eq_self]

/-- A legal word has the fixed bits of its opcode: the opcode itself, and 0 in every must-be-0 bit. -/
theorem fixedBits_of_legal {w : CmdWord} {op : BitVec 4} (code : opField w = op) (legal : w &&& mustBeZero op = 0#16) :
    w &&& (0xF000#16 ||| mustBeZero op) = op ++ 0#12 := by
  have high : w &&& 0xF000#16 = op ++ 0#12 := by
    rw [← append_extractLsb'_eq_self (a := 4) (b := 12) w, ← opField, code]
    exact high_field op _
  rw [BitVec.and_or_distrib_left, high, legal, BitVec.or_zero]

/-- The three configuration bits are the operand of SETCFG (R81). -/
theorem encode_setcfg (v : BitVec 3) :
    encode (.setcfg (v.getLsbD 0) (v.getLsbD 1) (v.getLsbD 2)) = .cmd (0b0110000000000#13 ++ v) := by
  revert v; decide

theorem encode_setcfg_lowBits (w : CmdWord) :
    encode (.setcfg (w.getLsbD 0) (w.getLsbD 1) (w.getLsbD 2)) = .cmd (0b0110000000000#13 ++ w.extractLsb' 0 3) := by
  simpa using encode_setcfg (w.extractLsb' 0 3)

/-- Legal words of an opcode below 0x8 lose no bit. -/
theorem encode_commandRow {w : CmdWord} (low : (opField w).toNat < 8) (legal : w &&& mustBeZero (opField w) = 0#16) :
    encode (commandRow w) = .cmd w := by
  have fixed := fixedBits_of_legal rfl legal
  unfold commandRow
  obtain op | op | op | op | op | op | op | op := lowOp_cases _ low <;> rw [op] at fixed ⊢
  · exact congrArg Code.cmd (fixed.symm.trans BitVec.and_allOnes)
  · exact congrArg Code.cmd (append_operand_of_masked (a := 9) fixed)
  · exact congrArg Code.cmd (append_operand_of_masked (a := 8) fixed)
  · exact congrArg Code.cmd (append_operand_of_masked (a := 4) fixed)
  · exact congrArg Code.cmd (fixed.symm.trans BitVec.and_allOnes)
  · exact congrArg Code.cmd (append_operand_of_masked (a := 12) fixed)
  · exact (encode_setcfg_lowBits w).trans (congrArg Code.cmd (append_operand_of_masked (a := 13) fixed))
  · exact congrArg Code.cmd (append_operand_of_masked (a := 12) fixed)

/-- What a command word can be (R82): OP 0x8 to 0xF, a must-be-0 bit set, or neither. -/
inductive WordCase (w : CmdWord) : Instr → Prop where
  | reserved (high : 8 ≤ (opField w).toNat) : WordCase w (.reserved (w.extractLsb' 0 15))
  | illegal (low : (opField w).toNat < 8) (bitSet : w &&& mustBeZero (opField w) ≠ 0#16) : WordCase w (.illegal w)
  | legal (low : (opField w).toNat < 8) (clear : w &&& mustBeZero (opField w) = 0#16) : WordCase w (commandRow w)

theorem wordCase (w : CmdWord) : WordCase w (decodeCommand w) := by
  by_cases low : (opField w).toNat < 8
  · rw [decodeCommand_low low, unlessIllegal]
    split
    · next clear => exact .legal low clear
    · next bitSet => exact .illegal low bitSet
  · rw [decodeCommand_high (not_lt.mp low)]
    exact .reserved (not_lt.mp low)

theorem hasReservedBit_iff (w : CmdWord) :
    hasReservedBit w = true ↔ (opField w).toNat < 8 ∧ w &&& mustBeZero (opField w) ≠ 0#16 := by
  simp [hasReservedBit]

theorem commandRow_wf (w : CmdWord) : (commandRow w).wf = true := by
  unfold commandRow; split <;> rfl

/-- The opcodes 0x8 to 0xF are those with bit 15 set. -/
theorem highOp_iff (w : CmdWord) : 8 ≤ (opField w).toNat ↔ w.extractLsb' 15 1 = 1#1 := by
  rw [BitVec.toNat_eq]
  simp only [opField, BitVec.extractLsb'_toNat, Nat.shiftRight_eq_div_pow, BitVec.toNat_ofNat]
  omega

theorem encode_reserved {w : CmdWord} (high : 8 ≤ (opField w).toNat) :
    encode (.reserved (w.extractLsb' 0 15)) = .cmd w := by
  have whole := append_extractLsb'_eq_self (a := 1) (b := 15) w
  rw [(highOp_iff w).mp high] at whole
  exact congrArg Code.cmd whole

/-- Every command word is the encoding of the well-formed instruction it decodes to. -/
theorem encode_decodeCommand (w : CmdWord) : encode (decodeCommand w) = .cmd w ∧ (decodeCommand w).wf = true := by
  generalize decoded : decodeCommand w = i
  cases decoded ▸ wordCase w with
  | reserved high => exact ⟨encode_reserved high, rfl⟩
  | illegal low bitSet => exact ⟨rfl, (hasReservedBit_iff w).mpr ⟨low, bitSet⟩⟩
  | legal low clear => exact ⟨encode_commandRow low clear, commandRow_wf w⟩

/-- READ's operand is all of the word but its opcode. -/
theorem decodeCommand_read (n : BitVec 12) : decodeCommand (3#4 ++ n) = .read n := by
  have op : opField (3#4 ++ n) = 3#4 := BitVec.extractLsb'_append_eq_left
  have operand : (3#4 ++ n : CmdWord).extractLsb' 0 12 = n := BitVec.extractLsb'_append_eq_right
  rw [decodeCommand, ← opField, op, operand]
  rfl

/-- Below its set top bit a reserved word is all operand. -/
theorem decodeCommand_reserved (rest : BitVec 15) : decodeCommand (1#1 ++ rest) = .reserved rest := by
  rw [decodeCommand_high ((highOp_iff _).mpr BitVec.extractLsb'_append_eq_left)]
  exact congrArg Instr.reserved BitVec.extractLsb'_append_eq_right

/-- A word with a must-be-0 bit of its opcode set is illegal as a whole (R82). -/
theorem decodeCommand_illegal {w : CmdWord} (h : hasReservedBit w = true) : decodeCommand w = .illegal w := by
  obtain ⟨low, bitSet⟩ := (hasReservedBit_iff w).mp h
  rw [decodeCommand_low low, unlessIllegal, if_neg bitSet]

theorem decode_encode_command {i : Instr} (command : isCommand i = true) (wf : i.wf = true) :
    decode (encode i) = i := by
  cases i with
  | nop => rfl
  | setaddr a => revert a; decide
  | write b => revert b; decide
  | read n => exact decodeCommand_read n
  | poprx => rfl
  | rdreg r => revert r; decide
  | setcfg a i o => revert a i o; decide
  | clrsts m => revert m; decide
  | reserved rest => exact decodeCommand_reserved rest
  | illegal w => exact decodeCommand_illegal wf
  | _ => cases command

theorem commandRow_ne_reserved (w : CmdWord) (rest : BitVec 15) : commandRow w ≠ .reserved rest := by
  unfold commandRow; split <;> simp

theorem commandRow_ne_illegal (w v : CmdWord) : commandRow w ≠ .illegal v := by
  unfold commandRow; split <;> simp

end Sys2Proof
end

section
/-! PROOFS. The statements about the encodings, the assembler and the reserved codes: O1 to O6 and O26. -/

namespace Sys2Proof.Machine

/-- Settles O2: a command row by its opcode and operand fields, a tick row by the family it belongs to. -/
theorem encodeThenDecode : Obligations.EncodeThenDecode := by
  intro i wf
  cases command : isCommand i with
  | true => exact decode_encode_command command wf
  | false => exact (tickRow_of_not_command command).decode_encode wf

/-- Settles O3: a command word by its fixed bits and its operand, a tick key by its four fields. -/
theorem decodeThenEncode : Obligations.DecodeThenEncode := by
  intro c
  cases c with
  | cmd w => exact encode_decodeCommand w
  | key k => exact encode_decodeKey k

/-- Settles O4: at a closed gate and at a reserved code every other row that fits comes later, and an open gate in a
named state fits no other row. -/
theorem firstMatchingRowSelects : Obligations.FirstMatchingRowSelects := by
  intro k
  refine ⟨by rw [isCommand, (encode_decodeKey k).1], fitsRow_decodeKey k, fun i tick fits => ?_⟩
  have row := tickRow_of_not_command tick
  cases keyCase k with
  | consumed wf st ph =>
    rw [decodeKey_consumed]
    obtain ⟨_, _, _, rfl⟩ | ⟨_, _, _, rfl⟩ | ⟨_, _, _, rfl⟩ | later := row.priority_cases
    · exact .inr rfl
    · exact .inl Nat.one_lt_two
    · exact .inl Nat.one_lt_two
    · exact .inl (Nat.one_lt_two.trans later)
  | reserved1011 wf c ph =>
    rw [decodeKey_reserved1011]
    obtain ⟨_, _, _, rfl⟩ | ⟨_, _, _, rfl⟩ | ⟨_, _, _, rfl⟩ | later := row.priority_cases
    · simp at fits
    · exact .inr rfl
    · simp [reserved_codes_differ] at fits
    · exact .inl later
  | reserved1215 wf c ph =>
    rw [decodeKey_reserved1215]
    obtain ⟨_, _, _, rfl⟩ | ⟨_, _, _, rfl⟩ | ⟨_, _, _, rfl⟩ | later := row.priority_cases
    · simp at fits
    · simp [(reserved_codes_differ _ _).symm] at fits
    · exact .inr rfl
    · exact .inl later
  | named wf p ph =>
    rw [decodeKey_named]
    exact .inr (openGateRow_only row fits)

/-- Settles O5: by what the word can be, RESERVED, ILLEGAL or the row of an opcode below 0x8. -/
theorem illegalWordsRefused : Obligations.IllegalWordsRefused := by
  refine ⟨fun w => ?_, fun _ _ => rfl, fun _ _ => rfl⟩
  generalize decoded : decodeCommand w = i
  cases decoded ▸ wordCase w with
  | reserved high => exact ⟨fun _ _ => rfl, fun legal => absurd (.inl high) legal⟩
  | illegal low bitSet => exact ⟨fun _ _ => rfl, fun legal => absurd (.inr bitSet) legal⟩
  | legal low clear =>
    exact ⟨fun illegal => absurd illegal (not_or.mpr ⟨not_le.mpr low, not_not.mpr clear⟩),
      fun _ => ⟨commandRow_ne_reserved w, commandRow_ne_illegal w⟩⟩

/-- Settles O26: at an open gate a reserved code selects a row that faults. -/
theorem reservedCodesFault : Obligations.ReservedCodesFault := by
  refine ⟨fun _ _ _ _ => rfl, fun _ _ _ _ => rfl, fun s reserved expired => ?_⟩
  have key : tickKey s = keyOf false s.waitFlag s.protocolState s.subPhase := by simp [tickKey, expired]
  rw [arrive, key, decodeKey_reserved _ _ _ reserved, exec_reservedRow]

/-- Settles O1: each word is the encoding of its instruction, which is well-formed. -/
theorem specWordsDecode : Obligations.SpecWordsDecode :=
  ⟨encodeThenDecode .nop rfl, encodeThenDecode (.setaddr 0x50#7) rfl, encodeThenDecode (.write 0xA5#8) rfl,
    encodeThenDecode (.read 2#12) rfl, encodeThenDecode (.rdreg 1#4) rfl,
    encodeThenDecode (.setcfg true false false) rfl, encodeThenDecode (.clrsts 4#4) rfl,
    encodeThenDecode (.illegal 0x1080#16) rfl, encodeThenDecode (.reserved 0#15) rfl,
    encodeThenDecode (.tickConsume false 2#4 0#2) rfl, encodeThenDecode (.tickP3Pause 4#4) rfl,
    encodeThenDecode (.tickReserved1215 false 0#2 1#2) rfl, encodeThenDecode (.sdataP1 false) rfl,
    encodeThenDecode .rdataP3 rfl⟩

/-! ### The assembler -/

theorem assembleWord_eq_some {l : AsmLine} {w : CmdWord} :
    assembleWord l = some w ↔ ∃ i, assemble l = some i ∧ encode i = .cmd w := by
  unfold assembleWord
  cases assemble l with
  | none => simp
  | some i => cases h : encode i <;> simp [h]

/-- What a line stands for is well-formed. -/
theorem assemble_wf {l : AsmLine} {i : Instr} (h : assemble l = some i) : i.wf = true := by
  cases l with
  | nop | poprx | clrstsAll => cases h; rfl
  | setcfgWords ks =>
    simp only [assemble, asmSetcfg] at h
    split at h <;> cases h
    rfl
  | _ =>
    obtain ⟨v, -, rfl⟩ := Option.map_eq_some_iff.mp h
    rfl

theorem assembleWord_of_assemble {l : AsmLine} {i : Instr} {w : CmdWord} (line : assemble l = some i)
    (word : encode i = .cmd w) : assembleWord l = some w :=
  assembleWord_eq_some.mpr ⟨i, line, word⟩

/-- A field in front of a number adds its own number above it. -/
theorem append_ofNat {a b : Nat} (x : BitVec a) {n : Nat} (h : n < 2 ^ b) :
    x ++ BitVec.ofNat b n = BitVec.ofNat (a + b) (x.toNat * 2 ^ b + n) := by
  have value : (x ++ BitVec.ofNat b n).toNat = x.toNat * 2 ^ b + n := by
    rw [BitVec.toNat_append, BitVec.toNat_ofNat, Nat.mod_eq_of_lt h, ← Nat.shiftLeft_add_eq_or_of_lt h,
      Nat.shiftLeft_eq]
  rw [← value, BitVec.ofNat_toNat, BitVec.setWidth_eq]

/-- A line with one operand: the word in range, and nothing out of it (R90). -/
theorem assembleWord_operand {width base n : Nat} {l : AsmLine} {row : BitVec width → Instr} {InRange : Prop}
    [Decidable InRange] (line : assemble l = (asmOperand width n).map row) (range : InRange ↔ n < 2 ^ width)
    (word : n < 2 ^ width → encode (row (BitVec.ofNat width n)) = .cmd (BitVec.ofNat 16 (base + n))) :
    assembleWord l = if InRange then some (BitVec.ofNat 16 (base + n)) else none := by
  by_cases fits : n < 2 ^ width
  · rw [if_pos (range.mpr fits)]
    exact assembleWord_of_assemble (by rw [line, asmOperand, if_pos fits]; rfl) (word fits)
  · rw [if_neg (mt range.mp fits), assembleWord, line, asmOperand, if_neg fits]
    rfl

theorem assembleWord_setaddr (a : Nat) :
    assembleWord (.setaddr a) = if a ≤ 0x7F then some (BitVec.ofNat 16 (0x1000 + a)) else none :=
  assembleWord_operand rfl Nat.lt_succ_iff.symm fun fits => congrArg Code.cmd (append_ofNat 0b000100000#9 fits)

theorem assembleWord_write (b : Nat) :
    assembleWord (.write b) = if b ≤ 0xFF then some (BitVec.ofNat 16 (0x2000 + b)) else none :=
  assembleWord_operand rfl Nat.lt_succ_iff.symm fun fits => congrArg Code.cmd (append_ofNat 0x20#8 fits)

theorem assembleWord_read (n : Nat) :
    assembleWord (.read n) = if n ≤ 0xFFF then some (BitVec.ofNat 16 (0x3000 + n)) else none :=
  assembleWord_operand rfl Nat.lt_succ_iff.symm fun fits => congrArg Code.cmd (append_ofNat 0x3#4 fits)

theorem assembleWord_rdreg (r : Nat) :
    assembleWord (.rdreg r) = if r ≤ 15 then some (BitVec.ofNat 16 (0x5000 + r)) else none :=
  assembleWord_operand rfl Nat.lt_succ_iff.symm fun fits => congrArg Code.cmd (append_ofNat 0x500#12 fits)

theorem assembleWord_setcfg (k : Nat) :
    assembleWord (.setcfg k) = if k < 8 then some (BitVec.ofNat 16 (0x6000 + k)) else none :=
  assembleWord_operand (row := fun v => .setcfg (v.getLsbD 0) (v.getLsbD 1) (v.getLsbD 2)) rfl Iff.rfl fun fits =>
    (encode_setcfg _).trans (congrArg Code.cmd (append_ofNat 0b0110000000000#13 fits))

theorem assembleWord_clrsts (m : Nat) :
    assembleWord (.clrsts m) = if m < 16 then some (BitVec.ofNat 16 (0x7000 + m)) else none :=
  assembleWord_operand rfl Iff.rfl fun fits => congrArg Code.cmd (append_ofNat 0x700#12 fits)

/-- The word of SETCFG is the sum of its bits (R81). -/
theorem encode_setcfg_sum (a i o : Bool) :
    encode (.setcfg a i o) = .cmd (BitVec.ofNat 16
      (0x6000 + (if a then 1 else 0) + (if i then 2 else 0) + (if o then 4 else 0))) := by
  revert a i o; decide

/-- A keyword list with no repetition and no conflict sets the bits it names (R90, log entry 12). -/
theorem assembleWord_setcfgWords {ks : List CfgWord} (once : ks.Nodup) (ack : ¬(.retry ∈ ks ∧ .abort ∈ ks))
    (ovf : ¬(.reject ∈ ks ∧ .overwrite ∈ ks)) :
    assembleWord (.setcfgWords ks) = some (BitVec.ofNat 16
      (0x6000 + (if .retry ∈ ks then 1 else 0) + (if .ignack ∈ ks then 2 else 0)
        + (if .overwrite ∈ ks then 4 else 0))) := by
  simpa using assembleWord_of_assemble (l := .setcfgWords ks) (if_pos ⟨once, ack, ovf⟩) (encode_setcfg_sum _ _ _)

/-- The word of a line decodes to the instruction of the line. -/
theorem decodeCommand_assembleWord {l : AsmLine} {w : CmdWord} (h : assembleWord l = some w) :
    some (decodeCommand w) = assemble l := by
  obtain ⟨i, line, word⟩ := assembleWord_eq_some.mp h
  have decoded : decode (.cmd w) = i := word ▸ encodeThenDecode i (assemble_wf line)
  rw [line, ← decoded, decode]

/-- Settles O6: an operand in range stands below its opcode, and one out of range has no bit vector. -/
theorem assemblerRefusesRatherThanTruncates : Obligations.AssemblerRefusesRatherThanTruncates := by
  refine ⟨fun _ _ => decodeCommand_assembleWord, rfl, rfl, rfl, assembleWord_setaddr, assembleWord_write,
    assembleWord_read, assembleWord_rdreg, assembleWord_setcfg, assembleWord_clrsts, fun r => ?_,
    fun _ => assembleWord_setcfgWords⟩
  cases r <;> rfl

end Sys2Proof.Machine
end

section
/-! SUPPORT. Where a field stands in a word made of fields, what RDREG answers from a register, and the words and counts
of the host commands as numbers. -/

namespace Sys2Proof.Machine

/-! ### The fields of a word -/

/-- A field of the upper part of a word stands above the whole lower part. -/
theorem field_above {a b i n : Nat} {x : BitVec a} {y : BitVec b} {f : BitVec n} (upper : x.extractLsb' i n = f) :
    (x ++ y).extractLsb' (i + b) n = f := by
  rw [BitVec.extractLsb'_append_eq_of_le (Nat.le_add_left b i), Nat.add_sub_cancel, upper]

theorem bit_above {a b i : Nat} {x : BitVec a} {y : BitVec b} {f : Bool} (upper : x.getLsbD i = f) :
    (x ++ y).getLsbD (i + b) = f := by
  rw [BitVec.getLsbD_append, if_neg (Nat.not_lt.mpr (Nat.le_add_left b i)), Nat.add_sub_cancel, upper]

theorem bit_lowest {a : Nat} {x : BitVec a} {f : Bool} : (x ++ BitVec.ofBool f).getLsbD 0 = f := by
  rw [BitVec.getLsbD_append, if_pos Nat.one_pos, BitVec.getLsbD_ofBool, decide_eq_true rfl, Bool.true_and]

/-! ### Registers, responses and counts -/

/-- RDREG of a register there is answers its value and writes nothing else (R105). -/
theorem exec_rdreg_of_register {r : BitVec 4} {s : State} {v : CmdWord} (value : register r s = some v) :
    exec (.rdreg r) s = .next { s with rsp := some ⟨true, v⟩ } := by
  simp only [exec, execRdreg, value, respond]

theorem busy_iff (s : State) : busy s = true ↔ s.protocolState ≠ ProtoState.idle.code ∨ s.extraWait ≠ 0#16 := by
  simp [busy, inState]

theorem statusWord_busy (s : State) : (statusWord s).getLsbD 7 = busy s := by
  repeat apply bit_above
  exact bit_lowest

/-- The data of a popped byte as a number: VALID above the byte (R84). -/
theorem poppedWord_eq_ofNat (b : Byte) : poppedWord b = BitVec.ofNat 16 (0x8000 + b.toNat) := by
  simpa [poppedWord] using append_ofNat (1#1 ++ 0#7) b.isLt

theorem readCount_toNat (n : BitVec 12) : (readCount n).toNat = n.toNat := BitVec.toNat_setWidth_of_le (by decide)

theorem add_readCount (c : Count) (n : BitVec 12) : c + readCount n = BitVec.ofNat 16 (c.toNat + n.toNat) :=
  BitVec.eq_of_toNat_eq (by rw [BitVec.toNat_add, readCount_toNat, BitVec.toNat_ofNat])

theorem queueLengths_mod_of_withinCapacity {s : State} (cap : WithinCapacity s) :
    s.outQ.length % 65536 = s.outQ.length ∧ s.inQ.length % 65536 = s.inQ.length := by
  obtain ⟨⟨-, outRange, -, inRange⟩, outFits, inFits⟩ := cap
  exact ⟨Nat.mod_eq_of_lt (by omega), Nat.mod_eq_of_lt (by omega)⟩

end Sys2Proof.Machine
end

section
/-! PROOFS. The statements about what the single host commands answer and write: O15, O17 to O21, O23 and O24. -/

namespace Sys2Proof.Machine

/-- Settles O15: neither command has a case to split on. -/
theorem nopAndSetaddrAnswerOk : Obligations.NopAndSetaddrAnswerOk := fun _ => ⟨rfl, fun _ => rfl⟩

/-- Settles O17: the operand keeps its value when it is widened, so the sum tested is the sum of the numbers. -/
theorem readAddsOrRefuses : Obligations.ReadAddsOrRefuses := by
  intro n s
  have step : exec (.read n) s = execRead n s := rfl
  rw [step, execRead, readCount_toNat, add_readCount]
  exact ⟨fun fits => if_neg (not_lt.mpr fits), fun passes => if_pos passes⟩

/-- Settles O18: by the two forms of the queue, with the answer's data read as a number. -/
theorem poprxTakesOldestByte : Obligations.PoprxTakesOldestByte := by
  refine ⟨fun s empty => ?_, fun s b q oldest => ?_⟩
  · simp only [exec, execPoprx, empty, respond]
  · simp only [exec, execPoprx, oldest, respond, poppedWord_eq_ofNat]

/-- Settles O19: each field of STATUS stands above the fields on its right. -/
theorem rdregStatusFields : Obligations.RdregStatusFields := by
  intro s
  refine ⟨statusWord s, exec_rdreg_of_register rfl, BitVec.extractLsb'_append_eq_right,
    field_above BitVec.extractLsb'_append_eq_right, ?wait, statusWord_busy s ▸ busy_iff s, ?txovf, ?rxovf, ?nack,
    ?busto, ?zeros⟩
  case zeros =>
    repeat apply field_above
    exact BitVec.extractLsb'_eq_self
  all_goals
    repeat apply bit_above
    exact bit_lowest

/-- Settles O20: each field of CONFIG and of CTX stands above the fields on its right. -/
theorem rdregConfigAndCtxFields : Obligations.RdregConfigAndCtxFields := by
  intro s
  refine ⟨⟨configWord s, exec_rdreg_of_register rfl, bit_lowest, bit_above bit_lowest, ?ovfpol, ?configZeros⟩,
    ctxWord s, exec_rdreg_of_register rfl, BitVec.extractLsb'_append_eq_right, bit_above (bit_lowest (f := false)),
    field_above (field_above BitVec.extractLsb'_append_eq_right), ?resend, ?ackKind, ?ctxZeros⟩
  case configZeros | ctxZeros =>
    repeat apply field_above
    exact BitVec.extractLsb'_eq_self
  all_goals
    repeat apply bit_above
    exact bit_lowest

/-- Settles O21: the lengths are cut to 16 bits, which queues within capacities in range do not notice. -/
theorem rdregCounts : Obligations.RdregCounts := fun s =>
  ⟨⟨addrWord s, exec_rdreg_of_register rfl, BitVec.extractLsb'_append_eq_right, BitVec.extractLsb'_append_eq_left⟩,
    ⟨txlenWord s, exec_rdreg_of_register rfl, BitVec.toNat_ofNat _ _⟩,
    ⟨rxlenWord s, exec_rdreg_of_register rfl, BitVec.toNat_ofNat _ _⟩, exec_rdreg_of_register rfl,
    exec_rdreg_of_register rfl, queueLengths_mod_of_withinCapacity⟩

/-- Settles O23: by the one test SETCFG makes, of the state. -/
theorem setcfgOnlyInIdle : Obligations.SetcfgOnlyInIdle := fun _ _ _ s =>
  ⟨fun idle => if_pos ((inState_iff .idle s).mpr idle), fun other => if_neg (mt (inState_iff .idle s).mp other)⟩

/-- Settles O24: a sticky bit and its mask bit, both ways. -/
theorem clrstsClearsSelected : Obligations.ClrstsClearsSelected := by
  intro m s
  have cleared (selected sticky : Bool) : (sticky && !selected) = if selected then false else sticky := by
    cases selected <;> simp
  simp only [exec, execClrsts, clearSticky, cleared, respond]

end Sys2Proof.Machine
end

section
/-! SUPPORT. The tick by its gate: what a consumed tick is and which row an open gate runs, and what a tick that is not
consumed does to the sub-phase and to each of the two lines; and the draws a sample can read. -/

namespace Sys2Proof.Machine

/-! ### The gate -/

theorem exec_tickConsume_running {s : State} (running : s.extraWait ≠ 0#16) (wf : Bool) (st : StateCode) (ph : Phase) :
    exec (.tickConsume wf st ph) s = .next { s with extraWait := s.extraWait - 1#16 } := if_neg running

theorem tick_consumed {s : State} (running : s.extraWait ≠ 0#16) :
    arrive .tick s = .next { s with extraWait := s.extraWait - 1#16 } := by
  rw [arrive, decodeKey_tickKey, if_pos running, exec_tickConsume_running running]

/-- With the gate open a tick in a named state runs the row of its sub-phase (R87 priorities 3 to 7). -/
theorem tick_openGate {s : State} {p : ProtoState} (expired : s.extraWait = 0#16) (state : s.protocolState = p.code) :
    arrive .tick s = exec (openGateRow s.waitFlag s.protocolState s.subPhase p) s := by
  have named : stateOfCode s.protocolState = some p := by rw [state, stateOfCode_code]
  simp only [arrive, decodeKey_tickKey, expired, named, ne_eq, not_true_eq_false, if_false]

/-- A count that is running does not wrap when it is lowered. -/
theorem toNat_sub_one {c : Count} (running : c ≠ 0#16) : (c - 1#16).toNat = c.toNat - 1 := by bv_omega

theorem sub_one_eq_ofNat {c : Count} (running : c ≠ 0#16) : c - 1#16 = BitVec.ofNat 16 (c.toNat - 1) := by
  rw [← toNat_sub_one running, BitVec.ofNat_toNat, BitVec.setWidth_eq]

/-! ### The sub-phase and SCL -/

/-- The action of a tick leaves the sub-phase to the advance (R121). -/
theorem TickEffect.subPhase {p : ProtoState} {s u : State} (h : TickEffect s p u) : u.subPhase = s.subPhase := by
  cases h with
  | phase1 _ _ act => exact act.clockKept.subPhase
  | phase3 _ _ _ act => exact act.clockKept.subPhase
  | pause => rfl
  | _ => simp [clockEdge_eq]

/-- Outside Idle SCL falls at sub-phase 0 and rises at sub-phase 2; nothing else moves it (R122, R123). -/
theorem TickEffect.sclLvl {p : ProtoState} {s u : State} (h : TickEffect s p u) (state : s.protocolState = p.code) :
    u.sclLvl = if p = .idle then s.sclLvl else if s.subPhase = 0#2 then false else if s.subPhase = 2#2 then true
      else s.sclLvl := by
  cases h with
  | clockLow phase => simp [clockEdge_eq, inState_of_code state, phase]
  | phase1 _ phase act => simp [act.clockKept.lvl, phase]
  | clockHigh phase => simp [clockEdge_eq, inState_of_code state, phase]
  | pause phase => simp [phase]
  | phase3 _ phase _ act => simp [act.clockKept.lvl, phase]

/-- Outside Idle SCL is high before the edge of sub-phase 0 and low after it (R175). -/
theorem StateInv.sclLvl {p : ProtoState} {s : State} (here : StateInv s p) (active : p ≠ .idle) :
    (s.subPhase = 0#2 → s.sclLvl = true) ∧ (s.subPhase = 1#2 → s.sclLvl = false) := by
  cases p with
  | idle => exact absurd rfl active
  | start =>
    obtain ⟨-, -, ⟨high, -⟩, late, -⟩ := here
    exact ⟨fun _ => high, fun phase => by simp [phase] at late⟩
  | _ => simp_all

/-- A tick that is not consumed moves on one sub-phase, and outside Idle SCL follows it. -/
theorem tick_clock {s t : State} {ph : Phase} (phase : s.subPhase = ph) (expired : s.extraWait = 0#16)
    (active : s.protocolState ≠ ProtoState.idle.code) (answer : arrive .tick s = .next t) :
    t.subPhase = ph + 1#2 ∧ t.sclLvl = if ph = 0#2 then false else if ph = 2#2 then true else s.sclLvl := by
  cases tick_effect answer with
  | consumed running => exact absurd expired running
  | acted p u _ state effect =>
    have notIdle : p ≠ .idle := fun idle => active (idle ▸ state)
    simp [effect.subPhase, effect.sclLvl state, notIdle, phase]

/-! ### SDA -/

/-- The elements of SDA: `u` has those of `s`. -/
structure SdaKept (s u : State) : Prop where
  dir : u.sdaDir = s.sdaDir
  lvl : u.sdaLvl = s.sdaLvl

/-- The two edges of SDA that sub-phase 3 drives, each out of its state `p` (R160, R163). -/
inductive SdaEdge (u : State) : ProtoState → Prop where
  | start (next : u.protocolState = ProtoState.sendAddress.code) (driven : u.sdaDir = true) (low : u.sdaLvl = false) :
      SdaEdge u .start
  | stop (next : u.protocolState = ProtoState.idle.code) (driven : u.sdaDir = true) (high : u.sdaLvl = true) :
      SdaEdge u .stop

/-- The initiation in Idle drives no line (R140). -/
theorem Phase1Effect.sdaKept {s u : State} (h : Phase1Effect s .idle u) : SdaKept s u := by
  cases h <;> exact ⟨rfl, rfl⟩

theorem MissedEffect.sdaKept {s u : State} (h : MissedEffect s u) : SdaKept s u := by
  obtain ⟨c, n, count⟩ := countRetry_frame { s with stsNack := true }
  cases h <;> constructor <;> simp [zeroRetry_eq, count]

/-- At sub-phase 3 only the START and the STOP edge drive SDA (R126, R160 to R164). -/
theorem Phase3Effect.sda {p : ProtoState} {s u : State} (h : Phase3Effect s p u) : SdaKept s u ∨ SdaEdge u p := by
  obtain ⟨ds, n, drawn⟩ := drawPeer_frame s
  cases h with
  | startEdge => exact .inr (.start rfl rfl rfl)
  | stopEdge => exact .inr (.stop rfl rfl rfl)
  | acked => left; constructor <;> simp [ackTaken, zeroRetry_eq, drawn]
  | missed _ _ _ _ _ _ outcome =>
    obtain ⟨dir, lvl⟩ := outcome.sdaKept
    rw [drawn] at dir lvl
    exact .inl ⟨dir, lvl⟩
  | byteIn => left; unfold completeByte; split <;> constructor <;> simp [pushIn_eq, drawn]
  | bitIn => left; constructor <;> simp [drawn]
  | _ => exact .inl ⟨rfl, rfl⟩

/-- A tick that is not consumed writes SDA at sub-phase 1 outside Idle, and at sub-phase 3 as one of the two edges. -/
theorem TickEffect.sda {p : ProtoState} {s u : State} (h : TickEffect s p u) :
    SdaKept s u ∨ s.subPhase = 1#2 ∧ p ≠ .idle ∨ s.subPhase = 3#2 ∧ s.waitFlag = false ∧ SdaEdge u p := by
  cases h with
  | phase1 _ phase act =>
    by_cases idle : p = .idle
    · subst idle; exact .inl act.sdaKept
    · exact .inr (.inl ⟨phase, idle⟩)
  | phase3 _ phase clear act => exact act.sda.imp id fun edge => .inr ⟨phase, clear, edge⟩
  | pause => exact .inl ⟨rfl, rfl⟩
  | _ => left; rw [clockEdge_eq]; exact ⟨rfl, rfl⟩

/-! ### Draws -/

theorem drawPeer_standing {s : State} {d : Bool} (none_listed : s.peerDraws = []) (standing : s.peerRest = some d) :
    drawPeer s = (d, s) := by
  simp only [drawPeer, none_listed, standing]

theorem drawPeer_free {s : State} (none_listed : s.peerDraws = []) (free : s.peerRest = none) :
    drawPeer s = (Config.peerLevel s.freeCount, { s with freeCount := s.freeCount + 1 }) := by
  simp only [drawPeer, none_listed, free]

/-- With SDA released a sample goes on with what is drawn (R130). -/
theorem sampleSDA_released {s u : State} {d : Bool} {k : Bool → State → Host.Outcome State Fault Refusal}
    (released : s.sdaDir = false) (drawn : drawPeer s = (d, u)) : sampleSDA s k = k d u := by
  simp [sampleSDA, released, drawn]

end Sys2Proof.Machine
end

section
/-! PROOFS. The statements about the tick sequencer and the lines: O11 to O14, O27, O38 and O41 to O43. -/

namespace Sys2Proof.Machine

/-- Settles O43: at sub-phase 1 the invariant has SCL low wherever SDA is written, and at sub-phase 3 it says from which
level each of the two edges starts. -/
theorem sdaEdgesUnderHighClockAreStartOrStop : Obligations.SdaEdgesUnderHighClockAreStartOrStop := by
  intro s t inv answer clockHigh _ change
  cases tick_effect answer with
  | consumed => simp at change
  | acted p u _ state effect =>
    have here := inv.stateInv state
    obtain ⟨dir, lvl⟩ | ⟨phase, active⟩ | ⟨phase, clear, edge⟩ := effect.sda
    · simp [dir, lvl] at change
    · exact absurd clockHigh (Bool.eq_false_iff.mp ((here.sclLvl active).2 phase))
    · cases edge with
      | start next driven low =>
        obtain ⟨-, -, ⟨-, drivenBefore, highBefore⟩, -⟩ := here
        exact ⟨drivenBefore, driven, .inl ⟨state, next, highBefore, low⟩⟩
      | stop next driven high =>
        obtain ⟨-, -, -, -, -, -, prepared⟩ := here
        obtain ⟨drivenBefore, lowBefore⟩ := prepared (.inr phase) clear
        exact ⟨drivenBefore, driven, .inr ⟨state, next, lowBefore, high⟩⟩

/-- Settles O11: at an open gate by the sub-phase, with the pause tested at sub-phase 3. -/
theorem tickComposesSequencer : Obligations.TickComposesSequencer := by
  intro s p state
  by_cases expired : s.extraWait = 0#16
  · rw [if_neg (not_not.mpr expired), tick_openGate expired state, openGateRow]
    obtain phase | phase | phase | phase := subPhase_cases s <;> rw [phase]
    · rfl
    · rfl
    · rfl
    · exact apply_ite (exec · s) _ _ _
  · rw [if_pos expired, tick_consumed expired]

/-- Settles O13, by induction on the ticks: each lowers the count by one, which does not wrap while it is running. -/
theorem armedWaitConsumesExactly : Obligations.ArmedWaitConsumesExactly := by
  intro s n
  induction n generalizing s with
  | zero => simp
  | succ n ih =>
    intro enough
    have running : s.extraWait ≠ 0#16 := by bv_omega
    have lowered := toNat_sub_one running
    have rest := ih { s with extraWait := s.extraWait - 1#16 } (by simp only [lowered]; omega)
    simp only [lowered, Nat.sub_sub, Nat.add_comm 1 n] at rest
    exact (repeatStep_succ n (tick_consumed running)).trans rest

/-- Settles O14: no action of a tick and no command writes the sub-phase, so only the advance moves it. -/
theorem subPhaseAdvancesByOne : Obligations.SubPhaseAdvancesByOne := by
  refine ⟨fun s t expired answer => ?_, fun s t w answer => ?_⟩
  · cases tick_effect answer with
    | consumed running => exact absurd expired running
    | acted p u _ _ effect => rw [advance_subPhase, effect.subPhase, BitVec.toNat_add]; rfl
  · cases arrive_effect answer with
    | command _ _ _ _ effect => exact effect.busKept.subPhase

/-- Settles O41: the line changes listed for the action of a tick; the advance and a consumed tick touch no line. -/
theorem pinsWrittenInTheirPhases : Obligations.PinsWrittenInTheirPhases := by
  intro s t answer
  cases tick_effect answer with
  | consumed => simp
  | acted p u _ state effect =>
    constructor
    · intro change
      by_contra other
      obtain ⟨notLow, notHigh⟩ := not_or.mp other
      simp [effect.sclLvl state, notLow, notHigh] at change
    · intro change
      obtain ⟨dir, lvl⟩ | ⟨phase, -⟩ | ⟨phase, -, edge⟩ := effect.sda
      · simp [dir, lvl] at change
      · exact .inl phase
      · cases edge with
        | start => exact .inr ⟨phase, .inl state⟩
        | stop => exact .inr ⟨phase, .inr state⟩

/-- Settles O42: the invariant gives the level at the start, and each tick moves it by its sub-phase. -/
theorem clockCyclesOncePerBitPeriod : Obligations.ClockCyclesOncePerBitPeriod := by
  intro s0 s1 s2 s3 s4 inv phase0 inside tick0 tick1 tick2 tick3
  obtain ⟨expired0, active0⟩ := inside s0 (.inl rfl)
  obtain ⟨expired1, active1⟩ := inside s1 (.inr (.inl rfl))
  obtain ⟨expired2, active2⟩ := inside s2 (.inr (.inr (.inl rfl)))
  obtain ⟨expired3, active3⟩ := inside s3 (.inr (.inr (.inr rfl)))
  have high0 : s0.sclLvl = true := by
    obtain ⟨p, state⟩ := legalCode_names_state _ inv.code
    exact ((inv.stateInv state).sclLvl fun idle => active0 (idle ▸ state)).1 phase0
  obtain ⟨phase1, low1⟩ : s1.subPhase = 1#2 ∧ s1.sclLvl = false := tick_clock phase0 expired0 active0 tick0
  obtain ⟨phase2, kept2⟩ : s2.subPhase = 2#2 ∧ s2.sclLvl = s1.sclLvl := tick_clock phase1 expired1 active1 tick1
  obtain ⟨phase3, high3⟩ : s3.subPhase = 3#2 ∧ s3.sclLvl = true := tick_clock phase2 expired2 active2 tick2
  obtain ⟨-, kept4⟩ : s4.subPhase = 0#2 ∧ s4.sclLvl = s3.sclLvl := tick_clock phase3 expired3 active3 tick3
  exact ⟨high0, low1, kept2.trans low1, high3, kept4.trans high3⟩

/-- Settles O12: a running count is lowered without wrap. -/
theorem consumedTickOnlyDecrements : Obligations.ConsumedTickOnlyDecrements := by
  intro s
  refine ⟨fun running => ?_, fun expired _ _ _ => if_pos expired⟩
  rw [← sub_one_eq_ofNat running]
  exact ⟨tick_consumed running, exec_tickConsume_running running⟩

/-- Settles O27: by the one test of a clock edge, of the state. -/
theorem clockEdgesSkippedInIdle : Obligations.ClockEdgesSkippedInIdle := by
  intro wf st s
  have low : exec (.tickP0 wf st) s = .next (advance (clockEdge false s)) := rfl
  have high : exec (.tickP2 wf st) s = .next (advance (clockEdge true s)) := rfl
  rw [low, high]
  refine ⟨fun idle => ?_, fun active => ?_⟩
  · simp [clockEdge, inState, idle, advance]
  · simp [clockEdge, inState, active, advance, driveSCL]

/-- Settles O38: a released sample goes on with the draw, which is listed, standing or free. -/
theorem sampleReadsOneDraw : Obligations.SampleReadsOneDraw := fun s _ =>
  ⟨fun driven => if_pos driven,
    fun released d ds listed => sampleSDA_released released (drawPeer_listed s d ds listed),
    fun released empty _ standing => sampleSDA_released released (drawPeer_standing empty standing),
    fun released empty free => sampleSDA_released released (drawPeer_free empty free)⟩

end Sys2Proof.Machine
end

section
/-! SUPPORT. What each row of sub-phases 1 and 3 does, an equation for each of its branches (42_protocol_states.md R140
to R163), and the bits of a byte that is coming in. -/

namespace Sys2Proof.Machine

/-! ### Pending work -/

theorem workPending_iff (s : State) : workPending s = true ↔ s.outQ ≠ [] ∨ 0 < s.pendingReceive.toNat := by
  have positive : s.pendingReceive ≠ 0#16 ↔ 0 < s.pendingReceive.toNat := by bv_omega
  simp [workPending, positive]

theorem workPending_eq_false_iff (s : State) : workPending s = false ↔ s.outQ = [] ∧ s.pendingReceive = 0#16 := by
  simp [workPending]

/-! ### Sub-phase 1 -/

theorem exec_idleP1_initiate {s : State} (wf : Bool) (work : workPending s = true) :
    exec (.idleP1 wf) s = .next (advance (enter .start { s with txAddress := s.targetAddress })) := if_pos work

theorem exec_idleP1_rest {s : State} (wf : Bool) (rest : workPending s = false) :
    exec (.idleP1 wf) s = .next (advance s) := if_neg (Bool.eq_false_iff.mp rest)

theorem sendAddressBit_of_lt_six {s : State} (index : s.bitIndex.toNat < 6) :
    sendAddressBit s = { driveSDA (addressBit s.txAddress s.bitIndex) s with bitIndex := s.bitIndex + 1#3 } := by
  have notLast : s.bitIndex ≠ 6#3 := by bv_omega
  have reached : s.bitIndex ≠ 7#3 := by bv_omega
  rw [sendAddressBit, if_neg reached, if_neg notLast]

theorem sendAddressBit_of_eq_six {s : State} (index : s.bitIndex = 6#3) :
    sendAddressBit s = enter .sendReadWriteBit { driveSDA (s.txAddress.getLsbD 0) s with bitIndex := 0#3 } := by
  simp [sendAddressBit, index, addressBit]

theorem exec_srwP1_read {s : State} (wf : Bool) (empty : s.outQ = []) :
    exec (.srwP1 wf) s = .next (advance (openAckSlot false .receiveData (driveSDA true s))) := if_pos empty

theorem exec_srwP1_write {s : State} (wf : Bool) (queued : s.outQ ≠ []) :
    exec (.srwP1 wf) s = .next (advance (openAckSlot false .sendData (driveSDA false s))) := if_neg queued

theorem sendDataBit_of_ne_seven {s : State} (index : s.bitIndex ≠ 7#3) :
    sendDataBit s = { driveSDA (dataBit s.shiftByte s.bitIndex) s with bitIndex := s.bitIndex + 1#3 } := if_neg index

theorem sendDataBit_of_eq_seven {s : State} (index : s.bitIndex = 7#3) :
    sendDataBit s = openAckSlot true (if s.outQ = [] then .stop else .sendData)
      { driveSDA (s.shiftByte.getLsbD 0) s with bitIndex := 0#3 } := by
  simp [sendDataBit, index, dataBit]

theorem exec_sdataP1_resend {s : State} (wf : Bool) (first : s.bitIndex = 0#3) (again : s.resend = true) :
    exec (.sdataP1 wf) s = .next (advance (sendDataBit { s with resend := false })) := by
  simp only [exec, execSdataP1, first, again, if_true]

theorem exec_sdataP1_pop {s : State} {b : Byte} {q : List Byte} (wf : Bool) (first : s.bitIndex = 0#3)
    (fresh : s.resend = false) (oldest : s.outQ = b :: q) :
    exec (.sdataP1 wf) s = .next (advance (sendDataBit { s with shiftByte := b, outQ := q })) := by
  simp [exec, execSdataP1, first, fresh, oldest]

theorem exec_sdataP1_underflow {s : State} (wf : Bool) (first : s.bitIndex = 0#3) (fresh : s.resend = false)
    (empty : s.outQ = []) : exec (.sdataP1 wf) s = .fault .outboundUnderflow := by
  simp [exec, execSdataP1, first, fresh, empty]

theorem exec_sdataP1_held {s : State} (wf : Bool) (notFirst : s.bitIndex ≠ 0#3) :
    exec (.sdataP1 wf) s = .next (advance (sendDataBit s)) := if_neg notFirst

theorem exec_rdataP1_first {s : State} (wf : Bool) (first : s.bitIndex = 0#3) :
    exec (.rdataP1 wf) s = .next (advance { releaseSDA s with shiftByte := 0x00#8 }) := if_pos first

theorem exec_rdataP1_more {s : State} (wf : Bool) (notFirst : s.bitIndex ≠ 0#3) :
    exec (.rdataP1 wf) s = .next (advance s) := if_neg notFirst

theorem exec_sackP1 {s : State} {p : ProtoState} (wf : Bool) (pending : s.pendingState = some p) :
    exec (.sackP1 wf) s = .next (advance (masterAck false p s)) := by
  simp only [exec, execSackP1, pending]

theorem exec_sackP1_undefined {s : State} (wf : Bool) (undefined : s.pendingState = none) :
    exec (.sackP1 wf) s = .fault .pendingStateUndefined := by
  simp only [exec, execSackP1, undefined]

/-! ### The START edge -/

theorem exec_startP3_edge {s : State} (work : workPending s = true) :
    exec .startP3 s = .next (advance (enter .sendAddress { driveSDA false s with extraWait := s.params.startWait })) :=
  if_pos work

theorem exec_startP3_cancelled {s : State} (rest : workPending s = false) :
    exec .startP3 s = .next (advance (enter .idle s)) := if_neg (Bool.eq_false_iff.mp rest)

/-! ### The acknowledge slot -/

/-- The state after a draw keeps all but the model's record of the peer (R130). -/
theorem frame_of_drawPeer_eq {s u : State} {d : Bool} (drawn : drawPeer s = (d, u)) :
    ∃ ds n, u = { s with peerDraws := ds, freeCount := n } := by
  have frame := drawPeer_frame s
  rwa [drawn] at frame

theorem exec_wackP3_undefined {s : State} (undefined : s.pendingState = none) :
    exec .wackP3 s = .fault .pendingStateUndefined := by
  simp only [exec, execWackP3, undefined]

theorem exec_wackP3_driven {s : State} {p : ProtoState} (pending : s.pendingState = some p) (driven : s.sdaDir = true) :
    exec .wackP3 s = .fault .readWhileDriving := by
  simp only [exec, execWackP3, pending, sampleSDA, driven, if_true]

theorem exec_wackP3_released {s u : State} {p : ProtoState} {d : Bool} (pending : s.pendingState = some p)
    (released : s.sdaDir = false) (drawn : drawPeer s = (d, u)) :
    exec .wackP3 s = .next (advance (resolveAck p d u)) := by
  simp only [exec, execWackP3, pending, sampleSDA_released released drawn]

theorem retryLimitReached_iff (s : State) :
    retryLimitReached s = true ↔ s.params.retryLimit ≠ 0 ∧ s.params.retryLimit ≤ s.retryCount.toNat + 1 :=
  decide_eq_true_iff

theorem retryLimitReached_eq_false_iff (s : State) :
    retryLimitReached s = false ↔ s.params.retryLimit = 0 ∨ s.retryCount.toNat + 1 < s.params.retryLimit := by
  rw [retryLimitReached, decide_eq_false_iff_not]
  omega

theorem retrySlot_eq (s : State) :
    retrySlot s = { s with
      pendingState := none
      resend := if s.ackKind then true else s.resend
      protocolState := if s.ackKind then ProtoState.sendData.code else ProtoState.stop.code } := by
  unfold retrySlot
  split <;> simp_all [enter]

/-- ACK, or the override: the pending state is resumed (R161). -/
theorem resolveAck_taken {s : State} {p : ProtoState} {d : Bool} (ack : d = false ∨ s.cfgIgnoreAck = true) :
    resolveAck p d s = { s with
      protocolState := p.code
      pendingState := none
      retryCount := if s.params.retryLimit = 0 then s.retryCount else 0#16 } := by
  rw [resolveAck, if_pos (by simpa using ack), ackTaken, zeroRetry_eq]
  rfl

theorem resolveAck_missed {s : State} {p : ProtoState} {d : Bool} (nack : d = true) (heeded : s.cfgIgnoreAck = false) :
    resolveAck p d s = ackMissed s := if_neg (by simp [nack, heeded])

/-- No ACK under Abort: the work is discarded (R161, R166). -/
theorem ackMissed_aborted {s : State} (policy : s.cfgAckPolicy = false) :
    ackMissed s = abort { s with
      stsNack := true
      retryCount := if s.params.retryLimit = 0 then s.retryCount else 0#16 } := by
  rw [ackMissed, if_neg (by simp [policy]), zeroRetry_eq]

/-- No ACK under Retry at the limit: the work is discarded and BUSTO recorded (R161, R166). -/
theorem ackMissed_timedOut {s : State} (policy : s.cfgAckPolicy = true) (reached : retryLimitReached s = true) :
    ackMissed s = abort { s with stsNack := true, stsBusTimeout := true, retryCount := 0#16 } := by
  rw [ackMissed, if_pos policy, if_pos reached]

/-- No ACK under Retry below the limit: the failure is counted, and the byte is sent again or the work kept (R161). -/
theorem ackMissed_retried {s : State} (policy : s.cfgAckPolicy = true) (below : retryLimitReached s = false) :
    ackMissed s = retrySlot (countRetry { s with stsNack := true }) := by
  rw [ackMissed, if_pos policy, if_neg (Bool.eq_false_iff.mp below)]

/-- The same where the count fits its 16 bits or is not kept at all. -/
theorem ackMissed_counted {s : State} (policy : s.cfgAckPolicy = true) (below : retryLimitReached s = false)
    (fits : s.params.retryLimit = 0 ∨ s.retryCount ≠ 0xFFFF#16) :
    ackMissed s = { s with
      stsNack := true
      retryCount := if s.params.retryLimit = 0 then s.retryCount else s.retryCount + 1#16
      pendingState := none
      resend := if s.ackKind then true else s.resend
      protocolState := if s.ackKind then ProtoState.sendData.code else ProtoState.stop.code } := by
  rw [ackMissed_retried policy below, retrySlot_eq]
  by_cases limit : s.params.retryLimit = 0
  · simp [countRetry, limit]
  · simp [countRetry, limit, fits.resolve_left limit]

/-- The same where the count passes 0xFFFF and is a free value (log entry 3). -/
theorem ackMissed_openCount {s : State} (policy : s.cfgAckPolicy = true) (below : retryLimitReached s = false)
    (limit : s.params.retryLimit ≠ 0) (full : s.retryCount = 0xFFFF#16) :
    ackMissed s = { s with
      stsNack := true
      retryCount := Config.openCount s.freeCount
      freeCount := s.freeCount + 1
      pendingState := none
      resend := if s.ackKind then true else s.resend
      protocolState := if s.ackKind then ProtoState.sendData.code else ProtoState.stop.code } := by
  rw [ackMissed_retried policy below, retrySlot_eq]
  simp [countRetry, limit, full]

/-! ### A received bit -/

theorem exec_rdataP3_driven {s : State} (driven : s.sdaDir = true) : exec .rdataP3 s = .fault .readWhileDriving :=
  if_pos driven

theorem exec_rdataP3_released {s u : State} {d : Bool} (released : s.sdaDir = false) (drawn : drawPeer s = (d, u)) :
    exec .rdataP3 s = receiveBit d u := sampleSDA_released released drawn

theorem receiveBit_of_ne_seven {s : State} {d : Bool} (index : s.bitIndex ≠ 7#3) :
    receiveBit d s = .next (advance
      { s with shiftByte := withDataBit s.shiftByte s.bitIndex d, bitIndex := s.bitIndex + 1#3 }) := if_neg index

theorem receiveBit_of_eq_seven {s : State} {d : Bool} (index : s.bitIndex = 7#3) (wanted : s.pendingReceive ≠ 0#16) :
    receiveBit d s = .next (advance (completeByte (withDataBit s.shiftByte s.bitIndex d) s)) := by
  rw [receiveBit, if_pos index, if_neg wanted]

theorem receiveBit_underflow {s : State} {d : Bool} (index : s.bitIndex = 7#3) (none_left : s.pendingReceive = 0#16) :
    receiveBit d s = .fault .receiveUnderflow := by
  rw [receiveBit, if_pos index, if_pos none_left]

/-- The end of a byte as one record: the master ACK follows if more remain, else the master NACK (R162). -/
theorem completeByte_eq (b : Byte) {s : State} (wanted : s.pendingReceive ≠ 0#16) :
    completeByte b s = { s with
      shiftByte := b
      bitIndex := 0#3
      stsRxOvf := if s.inQ.length = s.params.inqCap then true else s.stsRxOvf
      inQ := (if s.inQ.length = s.params.inqCap then s.inQ.drop 1 else s.inQ) ++ [b]
      pendingReceive := BitVec.ofNat 16 (s.pendingReceive.toNat - 1)
      protocolState :=
        if 1 < s.pendingReceive.toNat then ProtoState.sendAcknowledge.code else ProtoState.sendNoAcknowledge.code
      pendingState := if 1 < s.pendingReceive.toNat then some .receiveData else some .stop } := by
  have pushed : pushIn b s = { s with
      stsRxOvf := if s.inQ.length = s.params.inqCap then true else s.stsRxOvf
      inQ := (if s.inQ.length = s.params.inqCap then s.inQ.drop 1 else s.inQ) ++ [b] } := by
    unfold pushIn
    split <;> simp [*]
  rw [completeByte, pushed, ← sub_one_eq_ofNat wanted]
  split
  · next last => simp [enter, last]
  · next notLast =>
    have more : 1 < s.pendingReceive.toNat := by bv_omega
    simp [enter, more]

/-- `withDataBit` writes the one bit of its position and leaves the others (R162). -/
theorem getLsbD_withDataBit (b : Byte) (i : BitIndex) (d : Bool) {j : Nat} (inByte : j < 8) :
    (withDataBit b i d).getLsbD j = if j = 7 - i.toNat then d else b.getLsbD j := by
  have bit (x : Bool) : ((BitVec.ofBool x).setWidth 8).getLsbD (j - (7 - i.toNat))
      = (decide (j - (7 - i.toNat) = 0) && x) := by
    simp [BitVec.getLsbD_setWidth, BitVec.getLsbD_ofBool]; omega
  simp only [withDataBit, BitVec.getLsbD_or, BitVec.getLsbD_and, BitVec.getLsbD_not, BitVec.getLsbD_shiftLeft, inByte,
    BitVec.getLsbD_one, bit]
  obtain below | rfl | above := lt_trichotomy j (7 - i.toNat)
  · simp [below, below.ne]
  · simp
  · simp [above.not_gt, above.ne', Nat.sub_ne_zero_of_lt above]

end Sys2Proof.Machine
end

section
/-! PROOFS. Every state reachable from reset meets the invariant, and no step of it faults: O53. -/

namespace Sys2Proof.Machine

/-! ### No row faults where the invariant holds -/

/-- In SendData at bit 0 there is a byte to send, and in SendAcknowledge a state is pending; no other sub-phase 1 row
has a fault (R125, R145, R147). -/
theorem phase1_completes {p : ProtoState} {s : State} (wf : Bool) (here : StateInv s p) :
    ∃ t, exec (phase1Row wf p) s = .next t := by
  cases p with
  | idle =>
    cases work : workPending s with
    | true => exact ⟨_, exec_idleP1_initiate wf work⟩
    | false => exact ⟨_, exec_idleP1_rest wf work⟩
  | sendReadWriteBit =>
    by_cases empty : s.outQ = []
    · exact ⟨_, exec_srwP1_read wf empty⟩
    · exact ⟨_, exec_srwP1_write wf empty⟩
  | receiveData =>
    by_cases first : s.bitIndex = 0#3
    · exact ⟨_, exec_rdataP1_first wf first⟩
    · exact ⟨_, exec_rdataP1_more wf first⟩
  | sendData =>
    obtain ⟨-, -, -, -, -, byteReady⟩ := here
    by_cases first : s.bitIndex = 0#3
    · cases again : s.resend with
      | true => exact ⟨_, exec_sdataP1_resend wf first again⟩
      | false =>
        have queued : s.outQ ≠ [] := (byteReady first).resolve_right (Bool.eq_false_iff.mp again)
        obtain ⟨b, q, oldest⟩ := List.exists_cons_of_ne_nil queued
        exact ⟨_, exec_sdataP1_pop wf first again oldest⟩
    · exact ⟨_, exec_sdataP1_held wf first⟩
  | sendAcknowledge =>
    obtain ⟨pending, -⟩ := here
    exact ⟨_, exec_sackP1 wf pending⟩
  | _ => exact ⟨_, rfl⟩

/-- At sub-phase 3 SDA is released where it is sampled, a state is pending in the acknowledge slot and a byte is left to
count in ReceiveData; no other row has a fault (R126, R161, R162). -/
theorem phase3_completes {p : ProtoState} {s : State} (phase : s.subPhase = 3#2) (clear : s.waitFlag = false)
    (here : StateInv s p) : ∃ t, exec (phase3Row p) s = .next t := by
  obtain ⟨ds, n, frame⟩ := drawPeer_frame s
  have drawn : drawPeer s = ((drawPeer s).1, { s with peerDraws := ds, freeCount := n }) := Prod.ext rfl frame
  cases p with
  | start =>
    cases work : workPending s with
    | true => exact ⟨_, exec_startP3_edge work⟩
    | false => exact ⟨_, exec_startP3_cancelled work⟩
  | waitForAcknowledge =>
    obtain ⟨target, -, -, -, -, -, -, -, releasedLate⟩ := here
    have released := releasedLate (.inr phase) clear
    obtain pending | pending | pending := target <;> exact ⟨_, exec_wackP3_released pending released drawn⟩
  | receiveData =>
    obtain ⟨-, -, -, -, wanted, -, releasedLate, -⟩ := here
    have released := releasedLate (.inr phase) clear
    change ∃ t, exec .rdataP3 s = _
    rw [exec_rdataP3_released released drawn]
    by_cases last : s.bitIndex = 7#3
    · exact ⟨_, receiveBit_of_eq_seven last wanted⟩
    · exact ⟨_, receiveBit_of_ne_seven last⟩
  | _ => exact ⟨_, rfl⟩

/-- A tick completes from every state that meets the invariant (R182). -/
theorem tick_completes {s : State} (inv : Inv s) : ∃ t, arrive .tick s = .next t := by
  obtain ⟨p, state⟩ := legalCode_names_state _ inv.code
  have here := inv.stateInv state
  by_cases expired : s.extraWait = 0#16
  · rw [tick_openGate expired state]
    obtain phase | phase | phase | phase := subPhase_cases s <;> rw [phase]
    · exact ⟨_, rfl⟩
    · exact phase1_completes s.waitFlag here
    · exact ⟨_, rfl⟩
    · cases clear : s.waitFlag with
      | true => exact ⟨_, rfl⟩
      | false => exact phase3_completes phase clear here
  · exact ⟨_, tick_consumed expired⟩

/-- Whatever arrives completes from every state that meets the invariant (R182). -/
theorem arrive_completes {s : State} (e : PortEvent) (inv : Inv s) : ∃ t, arrive e s = .next t := by
  by_cases tick : e = .tick
  · exact tick ▸ tick_completes inv
  · obtain ⟨t, answer, -⟩ := hostArrival_completes tick s
    exact ⟨t, answer⟩

theorem safeStep_of_inv {s : State} (inv : Inv s) : SafeStep s := arrive_completes _ (takeEvent_inv inv)

/-! ### Reachable states -/

/-- A block just out of reset meets the invariant: a reset of it would change nothing. -/
theorem boot_inv {p : Params} (es : List PortEvent) (ds : List Bool) (rest : Option Bool) (n : Nat) (wf : p.wf) :
    Inv (boot p es ds rest n) := applyReset_inv (s := boot p es ds rest n) wf

/-- The invariant holds out of reset and every step keeps it. -/
theorem Reachable.inv {s : State} (reachable : Reachable s) : Inv s := by
  induction reachable with
  | boot p es ds rest n wf => exact boot_inv es ds rest n wf
  | step s t _ answer inv => exact stepKeepsInvariant s t inv answer

/-- Settles O53: each clause is one of the invariant's, which every reachable state meets. -/
theorem reachableStatesMeetSpecInvariants : Obligations.ReachableStatesMeetSpecInvariants := by
  intro s reachable
  have inv := reachable.inv
  obtain ⟨startWindow, -⟩ := inv.start
  exact ⟨inv.lifetime, fun start => startWindow ((inState_iff .start s).mpr start), inv.index, inv.pause,
    inv.outbound, inv.inbound, inv.pins, inv.sample, safeStep_of_inv inv⟩

end Sys2Proof.Machine
end

section
/-! PROOFS. The statements about the single rows of sub-phases 1 and 3: O28 to O37, O39 and O40. -/

namespace Sys2Proof.Machine

/-! ### Sub-phase 1 -/

/-- Settles O28: by the one test of IDLE_P1, of the work. -/
theorem idleStartsWhenWorkPending : Obligations.IdleStartsWhenWorkPending := fun wf s =>
  ⟨fun work => exec_idleP1_initiate wf ((workPending_iff s).mpr work),
    fun empty none_left => exec_idleP1_rest wf ((workPending_eq_false_iff s).mpr ⟨empty, none_left⟩)⟩

/-- Settles O29: each of the rows is the advance. -/
theorem noActionRowsOnlyAdvance : Obligations.NoActionRowsOnlyAdvance := by
  rintro wf s i (rfl | rfl | rfl | rfl | rfl | rfl | rfl) <;> rfl

/-- Settles O30: before the seventh bit the index goes up, and at the seventh the state changes. -/
theorem addressBitsMsbFirst : Obligations.AddressBitsMsbFirst := by
  intro wf s
  have row : exec (.saddrP1 wf) s = .next (advance (sendAddressBit s)) := rfl
  rw [row]
  refine ⟨fun index => ?_, fun index => ?_⟩
  · rw [sendAddressBit_of_lt_six index]; rfl
  · rw [sendAddressBit_of_eq_six index]; rfl

/-- Settles O31: the two values are the free ones. -/
theorem addressBitSevenIsFree : Obligations.AddressBitSevenIsFree := by
  intro wf s index
  refine ⟨Config.openLevel s.freeCount, Config.openIndex s.freeCount, ?_⟩
  have row : exec (.saddrP1 wf) s = .next (advance (sendAddressBit s)) := rfl
  rw [row, sendAddressBit, if_pos index]
  rfl

/-- Settles O32: by the one test of SRW_P1, of the outbound queue. -/
theorem directionBitOpensAddressSlot : Obligations.DirectionBitOpensAddressSlot := fun wf _ =>
  ⟨exec_srwP1_write wf, exec_srwP1_read wf⟩

/-- Settles O33: WACK_P1 has no case to split on, and RDATA_P1 tests for bit 0. -/
theorem sdaReleasedForPeer : Obligations.SdaReleasedForPeer := fun wf _ =>
  ⟨rfl, exec_rdataP1_first wf, exec_rdataP1_more wf⟩

/-- Settles O34: bit 0 takes a byte, and every bit but the last moves the index on. -/
theorem sendDataShiftsMsbFirst : Obligations.SendDataShiftsMsbFirst := by
  intro wf s
  refine ⟨fun first again => ?_, fun first fresh b q oldest => ?_, exec_sdataP1_underflow wf,
    fun atLeast atMost => ?_, fun last => ?_⟩
  · rw [exec_sdataP1_resend wf first again, sendDataBit_first (s := { s with resend := false }) first]; rfl
  · rw [exec_sdataP1_pop wf first fresh oldest,
      sendDataBit_first (s := { s with shiftByte := b, outQ := q }) first]; rfl
  · rw [exec_sdataP1_held wf (by bv_omega), sendDataBit_of_ne_seven (by bv_omega)]; rfl
  · rw [exec_sdataP1_held wf (by rw [last]; decide), sendDataBit_of_eq_seven last]
    cases queued : s.outQ <;> simp [openAckSlot, enter, armPause, driveSDA, advance, queued]

/-- Settles O35: by whether a state is pending. -/
theorem masterAckAndNack : Obligations.MasterAckAndNack := fun wf _ =>
  ⟨fun _ => exec_sackP1 wf, exec_sackP1_undefined wf, rfl⟩

/-- Settles O36: neither row has a case to split on. -/
theorem stopArmsWaitAndPauseIsConsumed : Obligations.StopArmsWaitAndPauseIsConsumed :=
  ⟨fun _ _ => rfl, fun _ _ => rfl⟩

/-! ### Sub-phase 3 -/

/-- Settles O37: by the one test of START_P3, of the work. -/
theorem startAndStopEdges : Obligations.StartAndStopEdges := fun s =>
  ⟨fun work => exec_startP3_edge ((workPending_iff s).mpr work),
    fun empty none_left => exec_startP3_cancelled ((workPending_eq_false_iff s).mpr ⟨empty, none_left⟩), rfl⟩

/-- Settles O39: by the level drawn and the override, then the policy, then the limit; the draw itself changes only the
model's record of the peer. -/
theorem ackSlotOutcome : Obligations.AckSlotOutcome := by
  intro s u d drawn
  refine ⟨exec_wackP3_undefined, fun p pending => ⟨exec_wackP3_driven pending, ?_⟩⟩
  obtain ⟨ds, n, rfl⟩ := frame_of_drawPeer_eq drawn
  have resolved (v : State) (released : s.sdaDir = false)
      (outcome : resolveAck p d { s with peerDraws := ds, freeCount := n } = v) :
      exec .wackP3 s = .next (advance v) := outcome ▸ exec_wackP3_released pending released drawn
  have missed (v : State) (released : s.sdaDir = false) (nack : d = true) (heeded : s.cfgIgnoreAck = false)
      (outcome : ackMissed { s with peerDraws := ds, freeCount := n } = v) : exec .wackP3 s = .next (advance v) :=
    resolved v released (by rw [← outcome]; exact resolveAck_missed nack heeded)
  refine ⟨fun released ack => ?_, fun released nack heeded policy => ?_,
    fun released nack heeded policy below => ?_,
    fun released nack heeded policy full large => ⟨Config.openCount n, ?_⟩,
    fun released nack heeded policy limit reached => ?_⟩
  · exact resolved _ released (resolveAck_taken ack)
  · exact missed _ released nack heeded (ackMissed_aborted policy)
  · have notReached := (retryLimitReached_eq_false_iff s).mpr (below.imp_right And.right)
    exact missed _ released nack heeded (ackMissed_counted policy notReached (below.imp_right And.left))
  · have notReached := (retryLimitReached_eq_false_iff s).mpr (.inr (by rw [full]; exact large))
    have inForce : s.params.retryLimit ≠ 0 := Nat.ne_of_gt (Nat.zero_lt_of_lt large)
    exact missed _ released nack heeded (ackMissed_openCount policy notReached inForce full)
  · have reached := (retryLimitReached_iff s).mpr ⟨limit, reached⟩
    exact missed _ released nack heeded (ackMissed_timedOut policy reached)

/-- Settles O40: by the two checks and by whether the bit is the eighth. -/
theorem receivedBitOutcome : Obligations.ReceivedBitOutcome := by
  intro s u d drawn
  obtain ⟨ds, n, rfl⟩ := frame_of_drawPeer_eq drawn
  have row (released : s.sdaDir = false) : exec .rdataP3 s = receiveBit d { s with peerDraws := ds, freeCount := n } :=
    exec_rdataP3_released released drawn
  refine ⟨exec_rdataP3_driven,
    fun released last none_left => (row released).trans (receiveBit_underflow last none_left),
    withDataBit s.shiftByte s.bitIndex d, fun j => getLsbD_withDataBit _ _ _, fun released index => ?_,
    fun released last wanted => ?_⟩
  · exact (row released).trans (receiveBit_of_ne_seven (show s.bitIndex ≠ 7#3 by bv_omega))
  · have counting : s.pendingReceive ≠ 0#16 := by bv_omega
    have completed (v : State) (outcome : completeByte (withDataBit s.shiftByte s.bitIndex d)
        { s with peerDraws := ds, freeCount := n } = v) : exec .rdataP3 s = .next (advance v) := by
      rw [← outcome, row released]
      exact receiveBit_of_eq_seven last counting
    exact completed _ (completeByte_eq _ counting)

end Sys2Proof.Machine
end

section
/-! PROOFS. The summary of the transitions: O44. -/

namespace Sys2Proof.Machine

/-- A sub-phase 1 action that changes the state is one of the rows of R165 at sub-phase 1. -/
theorem Phase1Effect.transition {p : ProtoState} {s u : State} (h : Phase1Effect s p u)
    (change : u.protocolState ≠ s.protocolState) :
    ∃ q : ProtoState, u.protocolState = q.code
      ∧ ((p = .idle ∧ (s.outQ ≠ [] ∨ 0 < s.pendingReceive.toNat) ∧ q = .start)
        ∨ (p = .sendAddress ∧ s.bitIndex = 6#3 ∧ q = .sendReadWriteBit)
        ∨ (p = .sendReadWriteBit ∧ q = .waitForAcknowledge)
        ∨ (p = .sendData ∧ s.bitIndex = 7#3 ∧ q = .waitForAcknowledge)
        ∨ (p = .sendAcknowledge ∧ s.pendingState = some q)
        ∨ (p = .sendNoAcknowledge ∧ q = .stop)) := by
  cases h with
  | initiate work => exact ⟨.start, rfl, .inl ⟨rfl, (workPending_iff s).mp work, rfl⟩⟩
  | lastAddressBit index => exact ⟨.sendReadWriteBit, rfl, .inr (.inl ⟨rfl, index, rfl⟩)⟩
  | directionRead | directionWrite => exact ⟨.waitForAcknowledge, rfl, .inr (.inr (.inl ⟨rfl, rfl⟩))⟩
  | lastDataBit index => exact ⟨.waitForAcknowledge, rfl, .inr (.inr (.inr (.inl ⟨rfl, index, rfl⟩)))⟩
  | ack q pending => exact ⟨q, rfl, .inr (.inr (.inr (.inr (.inl ⟨rfl, pending⟩))))⟩
  | nack => exact ⟨.stop, rfl, .inr (.inr (.inr (.inr (.inr ⟨rfl, rfl⟩))))⟩
  | _ => exact absurd rfl change

/-- The rows of R165 for a failed acknowledge: where it leads from `s`, and whether `u` has the work of `s` or none
(R161, R167). -/
def MissedRow (s u : State) (q : ProtoState) : Prop :=
  ((s.cfgAckPolicy = false ∨ retryLimitReached s = true) ∧ q = .stop ∧ u.outQ = [] ∧ u.pendingReceive = 0#16)
  ∨ (s.cfgAckPolicy = true ∧ retryLimitReached s = false ∧ s.ackKind = true ∧ q = .sendData
      ∧ u.outQ = s.outQ ∧ u.pendingReceive = s.pendingReceive)
  ∨ (s.cfgAckPolicy = true ∧ retryLimitReached s = false ∧ s.ackKind = false ∧ q = .stop
      ∧ u.outQ = s.outQ ∧ u.pendingReceive = s.pendingReceive)

theorem MissedEffect.transition {s u : State} (h : MissedEffect s u) :
    ∃ q : ProtoState, u.protocolState = q.code ∧ MissedRow s u q := by
  obtain ⟨c, n, count⟩ := countRetry_frame { s with stsNack := true }
  cases h with
  | aborted policy => exact ⟨.stop, rfl, .inl ⟨.inl policy, rfl, rfl, rfl⟩⟩
  | timedOut _ limit => exact ⟨.stop, rfl, .inl ⟨.inr limit, rfl, rfl, rfl⟩⟩
  | resent policy limit kind =>
    rw [count]
    exact ⟨.sendData, rfl, .inr (.inl ⟨policy, limit, kind, rfl, rfl, rfl⟩)⟩
  | stopped policy limit kind =>
    rw [count]
    exact ⟨.stop, rfl, .inr (.inr ⟨policy, limit, kind, rfl, rfl, rfl⟩)⟩

/-- A sub-phase 3 action that changes the state is one of the rows of R165 at sub-phase 3. -/
theorem Phase3Effect.transition {p : ProtoState} {s u : State} (h : Phase3Effect s p u)
    (change : u.protocolState ≠ s.protocolState) :
    ∃ q : ProtoState, u.protocolState = q.code
      ∧ ((p = .start ∧ (s.outQ ≠ [] ∨ 0 < s.pendingReceive.toNat) ∧ q = .sendAddress)
        ∨ (p = .start ∧ s.outQ = [] ∧ s.pendingReceive = 0#16 ∧ q = .idle)
        ∨ (p = .waitForAcknowledge ∧ ((drawPeer s).1 = false ∨ s.cfgIgnoreAck = true) ∧ s.pendingState = some q)
        ∨ (p = .waitForAcknowledge ∧ (drawPeer s).1 = true ∧ s.cfgIgnoreAck = false ∧ MissedRow s u q)
        ∨ (p = .receiveData ∧ s.bitIndex = 7#3 ∧ 1 < s.pendingReceive.toNat ∧ q = .sendAcknowledge)
        ∨ (p = .receiveData ∧ s.bitIndex = 7#3 ∧ s.pendingReceive = 1#16 ∧ q = .sendNoAcknowledge)
        ∨ (p = .stop ∧ q = .idle)) := by
  obtain ⟨ds, n, drawn⟩ := drawPeer_frame s
  cases h with
  | startEdge work => exact ⟨.sendAddress, rfl, .inl ⟨rfl, (workPending_iff s).mp work, rfl⟩⟩
  | startCancelled rest =>
    obtain ⟨empty, none_left⟩ := (workPending_eq_false_iff s).mp rest
    exact ⟨.idle, rfl, .inr (.inl ⟨rfl, empty, none_left, rfl⟩)⟩
  | acked q pending _ ack =>
    exact ⟨q, by simp [ackTaken, zeroRetry_eq], .inr (.inr (.inl ⟨rfl, ack, pending⟩))⟩
  | missed _ u _ _ nack heeded outcome =>
    rw [drawn] at outcome
    obtain ⟨q, next, row⟩ := outcome.transition
    exact ⟨q, next, .inr (.inr (.inr (.inl ⟨rfl, nack, heeded, row⟩)))⟩
  | byteIn _ index wanted =>
    by_cases last : s.pendingReceive = 1#16
    · refine ⟨.sendNoAcknowledge, ?_, .inr (.inr (.inr (.inr (.inr (.inl ⟨rfl, index, last, rfl⟩)))))⟩
      simp [completeByte, drawn, last]
    · have more : 1 < s.pendingReceive.toNat := by bv_omega
      refine ⟨.sendAcknowledge, ?_, .inr (.inr (.inr (.inr (.inl ⟨rfl, index, more, rfl⟩))))⟩
      simp [completeByte, drawn, last]
  | bitIn => simp [drawn] at change
  | stopEdge => exact ⟨.idle, rfl, .inr (.inr (.inr (.inr (.inr (.inr ⟨rfl, rfl⟩)))))⟩
  | noAction => exact absurd rfl change

/-- Settles O44: no command and no consumed tick writes the state, and the actions of sub-phases 1 and 3 change it by
their rows. -/
theorem transitionsOnlyAsListed : Obligations.TransitionsOnlyAsListed := by
  intro s t e answer notReset change limitReached kept
  cases arrive_effect answer with
  | reset => exact absurd rfl notReset
  | command w u ok data effect => exact absurd effect.busKept.protocolState change
  | consumed => exact absurd rfl change
  | acted p u expired state effect =>
    refine ⟨rfl, expired, p, ?_⟩
    cases effect with
    | phase1 _ phase act =>
      obtain ⟨q, next, row⟩ := act.transition change
      exact ⟨q, state, next, .inl ⟨phase, row⟩⟩
    | phase3 _ phase clear act =>
      obtain ⟨q, next, row⟩ := act.transition change
      simp only [MissedRow, retryLimitReached, decide_eq_true_eq, decide_eq_false_iff_not] at row
      exact ⟨q, state, next, .inr ⟨phase, clear, row⟩⟩
    | pause => exact absurd rfl change
    | _ => simp [clockEdge_eq] at change

end Sys2Proof.Machine
end

section
/-! SUPPORT. Ticks by the sub-phase of an open gate, and a run of bit periods counted from one SCL high to the next:
what SDA carries then is what R177 speaks of. -/

namespace Sys2Proof.Machine

/-! ### One tick -/

/-- The block is in state `p` and no extra wait runs: the next tick is not consumed. -/
structure OpenGate (p : ProtoState) (s : State) : Prop where
  state : s.protocolState = p.code
  expired : s.extraWait = 0#16

theorem OpenGate.tick_phase1 {p : ProtoState} {s : State} (gate : OpenGate p s) (phase : s.subPhase = 1#2) :
    arrive .tick s = exec (phase1Row s.waitFlag p) s := by
  rw [tick_openGate gate.expired gate.state, phase]; rfl

theorem OpenGate.tick_phase3 {p : ProtoState} {s : State} (gate : OpenGate p s) (phase : s.subPhase = 3#2)
    (clear : s.waitFlag = false) : arrive .tick s = exec (phase3Row p) s := by
  rw [tick_openGate gate.expired gate.state, phase, clear]; rfl

theorem OpenGate.tick_phase0 {p : ProtoState} {s : State} (gate : OpenGate p s) (phase : s.subPhase = 0#2) :
    arrive .tick s = .next (advance (clockEdge false s)) := by
  rw [tick_openGate gate.expired gate.state, phase]; rfl

theorem OpenGate.tick_phase2 {p : ProtoState} {s : State} (gate : OpenGate p s) (phase : s.subPhase = 2#2) :
    arrive .tick s = .next (advance (clockEdge true s)) := by
  rw [tick_openGate gate.expired gate.state, phase]; rfl

/-! ### Half a bit period -/

/-- `s` with SCL driven to `v` and the sub-phase `ph`. -/
def clocked (v : Bool) (ph : Phase) (s : State) : State := { s with sclDir := true, sclLvl := v, subPhase := ph }

/-- An open gate outside Idle, where the clock runs. -/
structure ActiveGate (p : ProtoState) (s : State) : Prop extends OpenGate p s where
  active : p ≠ .idle

theorem ActiveGate.clockEdge_eq {p : ProtoState} {s : State} (gate : ActiveGate p s) (v : Bool) :
    clockEdge v s = driveSCL v s := by
  simp [clockEdge, inState_of_code gate.state, gate.active]

/-- The tick behind a sub-phase 1 action that leads to `u` raises SCL. -/
theorem ActiveGate.tick_toHigh {p : ProtoState} {u : State} (gate : ActiveGate p u) (phase : u.subPhase = 1#2) :
    arrive .tick (advance u) = .next (clocked true 3#2 u) := by
  have next : ActiveGate p (advance u) := ⟨⟨gate.state, gate.expired⟩, gate.active⟩
  rw [next.tick_phase2 (by simp [phase]), next.clockEdge_eq]
  simp [clocked, driveSCL, advance, phase]

/-- The tick behind a sub-phase 3 action that leads to `u` lowers SCL. -/
theorem ActiveGate.tick_toLow {p : ProtoState} {u : State} (gate : ActiveGate p u) (phase : u.subPhase = 3#2) :
    arrive .tick (advance u) = .next (clocked false 1#2 u) := by
  have next : ActiveGate p (advance u) := ⟨⟨gate.state, gate.expired⟩, gate.active⟩
  rw [next.tick_phase0 (by simp [phase]), next.clockEdge_eq]
  simp [clocked, driveSCL, advance, phase]

/-- From the sub-phase 1 action, which leads to `u`, to the SCL high of the bit period. -/
theorem OpenGate.runTicks_toHigh {p q : ProtoState} {s u : State} (gate : OpenGate p s) (phase : s.subPhase = 1#2)
    (act : exec (phase1Row s.waitFlag p) s = .next (advance u)) (there : ActiveGate q u)
    (samePhase : u.subPhase = 1#2) : runTicks 2 s = .next (clocked true 3#2 u) :=
  (repeatStep_succ 1 ((gate.tick_phase1 phase).trans act)).trans (repeatStep_succ 0 (there.tick_toHigh samePhase))

/-- From the sub-phase 3 action, which leads to `u`, to the SCL low of the next bit period. -/
theorem OpenGate.runTicks_toLow {p q : ProtoState} {s u : State} (gate : OpenGate p s) (phase : s.subPhase = 3#2)
    (clear : s.waitFlag = false) (act : exec (phase3Row p) s = .next (advance u)) (there : ActiveGate q u)
    (samePhase : u.subPhase = 3#2) : runTicks 2 s = .next (clocked false 1#2 u) :=
  (repeatStep_succ 1 ((gate.tick_phase3 phase clear).trans act)).trans (repeatStep_succ 0 (there.tick_toLow samePhase))

/-! ### Bit periods -/

/-- From one SCL high to the next, over a sub-phase 3 action that leads to `u` and a sub-phase 1 action that leads
to `v`. -/
theorem OpenGate.runTicks_period {p q r : ProtoState} {s u v : State} (gate : OpenGate p s) (phase : s.subPhase = 3#2)
    (clear : s.waitFlag = false) (act3 : exec (phase3Row p) s = .next (advance u)) (mid : ActiveGate q u)
    (midPhase : u.subPhase = 3#2) (act1 : exec (phase1Row u.waitFlag q) (clocked false 1#2 u) = .next (advance v))
    (there : ActiveGate r v) (samePhase : v.subPhase = 1#2) : runTicks 4 s = .next (clocked true 3#2 v) := by
  have low := gate.runTicks_toLow phase clear act3 mid midPhase
  have lowGate : OpenGate q (clocked false 1#2 u) := ⟨mid.state, mid.expired⟩
  exact (repeatStep_add 2 low).trans (lowGate.runTicks_toHigh rfl act1 there samePhase)

/-- The same where sub-phase 3 has no action, so that only the next sub-phase 1 action, which leads to `v`, counts. -/
theorem ActiveGate.runTicks_quietPeriod {p q : ProtoState} {s v : State} (gate : ActiveGate p s)
    (clear : s.waitFlag = false) (quiet : ∀ t, exec (phase3Row p) t = .next (advance t))
    (act : exec (phase1Row s.waitFlag p) (clocked false 1#2 s) = .next (advance v)) (there : ActiveGate q v)
    (samePhase : v.subPhase = 1#2) : runTicks 4 (clocked true 3#2 s) = .next (clocked true 3#2 v) := by
  have high : ActiveGate p (clocked true 3#2 s) := ⟨⟨gate.state, gate.expired⟩, gate.active⟩
  exact high.runTicks_period rfl clear (quiet _) high rfl act there samePhase

/-- A run that reaches the first SCL high, and then one bit period after the other. -/
theorem runTicks_bits {high : Nat → State} {n : Nat} {s : State} (first : runTicks 2 s = .next (high 0))
    (period : ∀ i, i < n → runTicks 4 (high i) = .next (high (i + 1))) :
    ∀ i, i ≤ n → runTicks (4 * i + 2) s = .next (high i) := by
  intro i
  induction i with
  | zero => exact fun _ => first
  | succ i ih =>
    intro inRange
    have so_far := ih (Nat.le_of_succ_le inRange)
    exact (repeatStep_add 4 so_far).trans (period i inRange)

end Sys2Proof.Machine
end

section
/-! PROOFS. The statements about runs of ticks inside a transaction: O55 to O58. -/

namespace Sys2Proof.Machine

/-! ### A transaction begins -/

/-- Idle with work pending and nothing in the way of it. -/
structure IdleReady (s : State) : Prop where
  gate : OpenGate .idle s
  clear : s.waitFlag = false
  work : workPending s = true

/-- Within `n` ticks a transaction begins, for the target address. -/
def BeginsWithin (n : Nat) (s : State) : Prop :=
  ∃ (k : Nat) (t : State), k ≤ n ∧ runTicks k s = .next t ∧ t.protocolState = ProtoState.start.code
    ∧ t.txAddress = s.targetAddress

theorem IdleReady.begins_now {s : State} (ready : IdleReady s) (phase : s.subPhase = 1#2) : BeginsWithin 1 s := by
  have tick := (ready.gate.tick_phase1 phase).trans (exec_idleP1_initiate s.waitFlag ready.work)
  exact ⟨1, _, le_rfl, repeatStep_succ 0 tick, rfl, rfl⟩

/-- Idle does nothing at the other sub-phases (R122, R123, R164). -/
theorem IdleReady.tick_advances {s : State} (ready : IdleReady s) (phase : s.subPhase ≠ 1#2) :
    arrive .tick s = .next (advance s) := by
  have noEdge (v : Bool) : clockEdge v s = s := by simp [clockEdge, inState_of_code ready.gate.state]
  obtain phase0 | phase1 | phase2 | phase3 := subPhase_cases s
  · rw [ready.gate.tick_phase0 phase0, noEdge]
  · exact absurd phase1 phase
  · rw [ready.gate.tick_phase2 phase2, noEdge]
  · exact ready.gate.tick_phase3 phase3 ready.clear

theorem IdleReady.begins_later {s : State} {n : Nat} (ready : IdleReady s) (phase : s.subPhase ≠ 1#2)
    (later : IdleReady (advance s) → BeginsWithin n (advance s)) : BeginsWithin (n + 1) s := by
  obtain ⟨k, t, soon, run, start, latched⟩ :=
    later ⟨⟨ready.gate.state, ready.gate.expired⟩, ready.clear, ready.work⟩
  exact ⟨k + 1, t, Nat.succ_le_succ soon, (repeatStep_succ k (ready.tick_advances phase)).trans run, start, latched⟩

theorem BeginsWithin.mono {m n : Nat} {s : State} (h : BeginsWithin m s) (le : m ≤ n) : BeginsWithin n s := by
  obtain ⟨k, t, soon, rest⟩ := h
  exact ⟨k, t, soon.trans le, rest⟩

/-- Settles O55: Idle waits for its sub-phase 1, the longest from sub-phase 2, and begins there. -/
theorem workBeginsWithinFourTicks : Obligations.WorkBeginsWithinFourTicks := by
  intro s inv state work
  obtain ⟨-, ⟨expired, clear, -⟩, -⟩ := inv.stateInv (p := .idle) state
  have ready : IdleReady s := ⟨⟨state, expired⟩, clear, work⟩
  have from1 {t : State} (ready : IdleReady t) (phase : t.subPhase = 1#2) : BeginsWithin 1 t := ready.begins_now phase
  have from0 {t : State} (ready : IdleReady t) (phase : t.subPhase = 0#2) : BeginsWithin 2 t :=
    ready.begins_later (by simp [phase]) fun next => from1 next (by simp [phase])
  have from3 {t : State} (ready : IdleReady t) (phase : t.subPhase = 3#2) : BeginsWithin 3 t :=
    ready.begins_later (by simp [phase]) fun next => from0 next (by simp [phase])
  have from2 {t : State} (ready : IdleReady t) (phase : t.subPhase = 2#2) : BeginsWithin 4 t :=
    ready.begins_later (by simp [phase]) fun next => from3 next (by simp [phase])
  change BeginsWithin 4 s
  obtain phase | phase | phase | phase := subPhase_cases s
  · exact (from0 ready phase).mono (by decide)
  · exact (from1 ready phase).mono (by decide)
  · exact from2 ready phase
  · exact (from3 ready phase).mono (by decide)

/-! ### A byte goes out -/

theorem sendDataBit_pins (s : State) :
    (sendDataBit s).sdaDir = true ∧ (sendDataBit s).sdaLvl = dataBit s.shiftByte s.bitIndex
      ∧ (sendDataBit s).outQ = s.outQ := by
  unfold sendDataBit; split <;> exact ⟨rfl, rfl, rfl⟩

theorem sendDataBit_subPhase (s : State) : (sendDataBit s).subPhase = s.subPhase := by
  unfold sendDataBit; split <;> rfl

theorem sendDataBit_activeGate {s : State} (gate : OpenGate .sendData s) : ∃ p, ActiveGate p (sendDataBit s) := by
  unfold sendDataBit
  split
  · exact ⟨.waitForAcknowledge, ⟨rfl, gate.expired⟩, by decide⟩
  · exact ⟨.sendData, ⟨gate.state, gate.expired⟩, by decide⟩

/-- What the pins were before a bit is driven and the clock raised does not matter. -/
theorem clocked_sendDataBit (s : State) (v w : Bool) (ph : Phase) :
    clocked true 3#2 (sendDataBit (clocked v ph (driveSDA w s))) = clocked true 3#2 (sendDataBit s) := by
  by_cases last : s.bitIndex = 7#3
  · rw [sendDataBit_of_eq_seven last, sendDataBit_of_eq_seven (s := clocked v ph (driveSDA w s)) last]; rfl
  · rw [sendDataBit_of_ne_seven last, sendDataBit_of_ne_seven (s := clocked v ph (driveSDA w s)) last]; rfl

/-- `s` with bit `i` of the byte `b` next to go out, and `q` queued behind it. -/
def holding (s : State) (b : Byte) (q : List Byte) (i : Nat) : State :=
  { s with shiftByte := b, outQ := q, resend := false, bitIndex := BitVec.ofNat 3 i }

/-- The state at the SCL high of bit `i` of the byte `b`, which began to go out from `s` and leaves `q` queued. -/
def byteOutAt (s : State) (b : Byte) (q : List Byte) (i : Nat) : State :=
  clocked true 3#2 (sendDataBit (holding s b q i))

/-- The first bit of the byte to send, popped or driven again (R145). -/
theorem runTicks_byteOut_first {s : State} {b : Byte} {q : List Byte} (gate : OpenGate .sendData s)
    (phase : s.subPhase = 1#2) (first : s.bitIndex = 0#3)
    (source : (s.resend = false ∧ s.outQ = b :: q) ∨ (s.resend = true ∧ s.shiftByte = b ∧ s.outQ = q)) :
    runTicks 2 s = .next (byteOutAt s b q 0) := by
  have act : exec (.sdataP1 s.waitFlag) s = .next (advance (sendDataBit (holding s b q 0))) := by
    obtain ⟨fresh, oldest⟩ | ⟨again, rfl, rfl⟩ := source
    · rw [exec_sdataP1_pop _ first fresh oldest, holding, ← fresh, ← first]
    · rw [exec_sdataP1_resend _ first again, holding, ← first]
  obtain ⟨p, there⟩ := sendDataBit_activeGate (s := holding s b q 0) ⟨gate.state, gate.expired⟩
  exact gate.runTicks_toHigh phase act there ((sendDataBit_subPhase _).trans phase)

/-- Before the last bit the state stays and the index goes up, with some level `w` on SDA. -/
theorem byteOutAt_of_lt_seven (s : State) (b : Byte) (q : List Byte) {i : Nat} (more : i < 7) :
    ∃ w, byteOutAt s b q i = clocked true 3#2 (driveSDA w (holding s b q (i + 1))) := by
  have notLast : (holding s b q i).bitIndex ≠ 7#3 := by simp only [holding]; bv_omega
  refine ⟨dataBit b (BitVec.ofNat 3 i), ?_⟩
  rw [byteOutAt, sendDataBit_of_ne_seven notLast]
  simp [holding, BitVec.ofNat_add, clocked, driveSDA]

theorem runTicks_byteOut_period {s : State} (b : Byte) (q : List Byte) (gate : OpenGate .sendData s)
    (clear : s.waitFlag = false) {i : Nat} (more : i < 7) :
    runTicks 4 (byteOutAt s b q i) = .next (byteOutAt s b q (i + 1)) := by
  obtain ⟨w, here⟩ := byteOutAt_of_lt_seven s b q more
  have notFirst : (holding s b q (i + 1)).bitIndex ≠ 0#3 := by simp only [holding]; bv_omega
  obtain ⟨p, there⟩ := sendDataBit_activeGate (s := clocked false 1#2 (driveSDA w (holding s b q (i + 1))))
    ⟨gate.state, gate.expired⟩
  rw [here, byteOutAt, ← clocked_sendDataBit _ false w 1#2]
  exact ActiveGate.runTicks_quietPeriod ⟨⟨gate.state, gate.expired⟩, by decide⟩ clear (fun _ => rfl)
    (exec_sdataP1_held _ notFirst) there (sendDataBit_subPhase _)

/-- Settles O56: by the run of the eight bit periods, and by what SDA carries in each. -/
theorem byteGoesOutMsbFirst : Obligations.ByteGoesOutMsbFirst := by
  intro s b q state phase first expired clear source i inByte
  have gate : OpenGate .sendData s := ⟨state, expired⟩
  have run := runTicks_bits (runTicks_byteOut_first gate phase first source)
    (fun _ more => runTicks_byteOut_period b q gate clear more) i (Nat.le_of_lt_succ inByte)
  obtain ⟨driven, level, rest⟩ := sendDataBit_pins (holding s b q i)
  refine ⟨_, run, rfl, rfl, driven, level.trans ?_, rest⟩
  simp [dataBit, holding, Nat.mod_eq_of_lt inByte]

/-! ### The address goes out -/

theorem addressBit_cases {s : State} (inAddress : s.bitIndex.toNat < 7) :
    s.bitIndex.toNat < 6 ∨ s.bitIndex = 6#3 := by bv_omega

theorem sendAddressBit_pins {s : State} (inAddress : s.bitIndex.toNat < 7) :
    (sendAddressBit s).sdaDir = true ∧ (sendAddressBit s).sdaLvl = addressBit s.txAddress s.bitIndex := by
  obtain notLast | last := addressBit_cases inAddress
  · rw [sendAddressBit_of_lt_six notLast]; exact ⟨rfl, rfl⟩
  · rw [sendAddressBit_of_eq_six last, last]; exact ⟨rfl, rfl⟩

theorem sendAddressBit_subPhase (s : State) : (sendAddressBit s).subPhase = s.subPhase := by
  unfold sendAddressBit openAddressBit
  split
  · rfl
  · split <;> rfl

theorem sendAddressBit_activeGate {s : State} (gate : OpenGate .sendAddress s) (inAddress : s.bitIndex.toNat < 7) :
    ∃ p, ActiveGate p (sendAddressBit s) := by
  obtain notLast | last := addressBit_cases inAddress
  · rw [sendAddressBit_of_lt_six notLast]; exact ⟨.sendAddress, ⟨gate.state, gate.expired⟩, by decide⟩
  · rw [sendAddressBit_of_eq_six last]; exact ⟨.sendReadWriteBit, ⟨rfl, gate.expired⟩, by decide⟩

theorem clocked_sendAddressBit {s : State} (inAddress : s.bitIndex.toNat < 7) (v w : Bool) (ph : Phase) :
    clocked true 3#2 (sendAddressBit (clocked v ph (driveSDA w s))) = clocked true 3#2 (sendAddressBit s) := by
  obtain notLast | last := addressBit_cases inAddress
  · rw [sendAddressBit_of_lt_six notLast, sendAddressBit_of_lt_six (s := clocked v ph (driveSDA w s)) notLast]; rfl
  · rw [sendAddressBit_of_eq_six last, sendAddressBit_of_eq_six (s := clocked v ph (driveSDA w s)) last]; rfl

/-- `s` with bit `i` of the address next to go out. -/
def addressing (s : State) (i : Nat) : State := { s with bitIndex := BitVec.ofNat 3 i }

/-- The state at the SCL high of bit `i` of the address, which began to go out from `s`. -/
def addressOutAt (s : State) (i : Nat) : State := clocked true 3#2 (sendAddressBit (addressing s i))

theorem addressing_bitIndex_toNat (s : State) {i : Nat} (inAddress : i < 7) : (addressing s i).bitIndex.toNat = i := by
  rw [addressing, BitVec.toNat_ofNat]; omega

theorem runTicks_addressOut_first {s : State} (gate : OpenGate .sendAddress s) (phase : s.subPhase = 1#2)
    (first : s.bitIndex = 0#3) : runTicks 2 s = .next (addressOutAt s 0) := by
  have inAddress : s.bitIndex.toNat < 7 := by rw [first]; decide
  obtain ⟨p, there⟩ := sendAddressBit_activeGate gate inAddress
  have here : addressing s 0 = s := by rw [addressing, ← first]
  rw [addressOutAt, here]
  exact gate.runTicks_toHigh phase rfl there ((sendAddressBit_subPhase s).trans phase)

/-- Before the last bit the state stays and the index goes up, with some level `w` on SDA. -/
theorem addressOutAt_of_lt_six (s : State) {i : Nat} (more : i < 6) :
    ∃ w, addressOutAt s i = clocked true 3#2 (driveSDA w (addressing s (i + 1))) := by
  have index := addressing_bitIndex_toNat s (Nat.lt_succ_of_lt more)
  refine ⟨addressBit s.txAddress (BitVec.ofNat 3 i), ?_⟩
  rw [addressOutAt, sendAddressBit_of_lt_six (by rw [index]; exact more)]
  simp [addressing, BitVec.ofNat_add, clocked, driveSDA]

theorem runTicks_addressOut_period {s : State} (gate : OpenGate .sendAddress s) (clear : s.waitFlag = false) {i : Nat}
    (more : i < 6) : runTicks 4 (addressOutAt s i) = .next (addressOutAt s (i + 1)) := by
  obtain ⟨w, here⟩ := addressOutAt_of_lt_six s more
  have inAddress : (addressing s (i + 1)).bitIndex.toNat < 7 := by
    rw [addressing_bitIndex_toNat s (Nat.succ_lt_succ more)]; exact Nat.succ_lt_succ more
  obtain ⟨p, there⟩ := sendAddressBit_activeGate (s := clocked false 1#2 (driveSDA w (addressing s (i + 1))))
    ⟨gate.state, gate.expired⟩ inAddress
  rw [here, addressOutAt, ← clocked_sendAddressBit inAddress false w 1#2]
  exact ActiveGate.runTicks_quietPeriod ⟨⟨gate.state, gate.expired⟩, by decide⟩ clear (fun _ => rfl) rfl there
    (sendAddressBit_subPhase _)

/-- SRW_P1 as one record: the direction bit is 1 exactly for a read (R143). -/
theorem exec_srwP1 (wf : Bool) (s : State) :
    exec (.srwP1 wf) s = .next (advance (openAckSlot false (if s.outQ = [] then .receiveData else .sendData)
      (driveSDA (decide (s.outQ = [])) s))) := by
  by_cases empty : s.outQ = []
  · rw [exec_srwP1_read wf empty]; simp [empty]
  · rw [exec_srwP1_write wf empty]; simp [empty]

/-- The bit period after the last address bit carries the direction and opens the acknowledge slot (R143). -/
theorem runTicks_direction {s : State} (gate : OpenGate .sendAddress s) (clear : s.waitFlag = false) :
    runTicks 4 (addressOutAt s 6) = .next (clocked true 3#2
      (openAckSlot false (if s.outQ = [] then .receiveData else .sendData)
        (driveSDA (decide (s.outQ = [])) { s with bitIndex := 0#3 }))) := by
  have last : addressOutAt s 6
      = clocked true 3#2 (enter .sendReadWriteBit { driveSDA (s.txAddress.getLsbD 0) s with bitIndex := 0#3 }) := by
    rw [addressOutAt, sendAddressBit_of_eq_six rfl]; rfl
  rw [last]
  exact Eq.trans (ActiveGate.runTicks_quietPeriod (p := .sendReadWriteBit) (q := .waitForAcknowledge)
    ⟨⟨rfl, gate.expired⟩, by decide⟩ clear (fun _ => rfl) (exec_srwP1 _ _) ⟨⟨rfl, gate.expired⟩, by decide⟩ rfl)
    rfl

/-- Settles O58: by the run of the seven bit periods and the one after them. -/
theorem addressGoesOutMsbFirst : Obligations.AddressGoesOutMsbFirst := by
  intro s state phase first expired clear
  have gate : OpenGate .sendAddress s := ⟨state, expired⟩
  have run := runTicks_bits (runTicks_addressOut_first gate phase first)
    (fun _ more => runTicks_addressOut_period gate clear more)
  refine ⟨fun i inAddress => ?_, ?_⟩
  · have index := addressing_bitIndex_toNat s inAddress
    obtain ⟨driven, level⟩ := sendAddressBit_pins (s := addressing s i) (by rw [index]; exact inAddress)
    exact ⟨_, run i (Nat.le_of_lt_succ inAddress), rfl, driven, level.trans (by rw [addressBit, index]; rfl)⟩
  · exact ⟨_, (repeatStep_add 4 (run 6 le_rfl)).trans (runTicks_direction gate clear), rfl, rfl, rfl, rfl⟩

/-! ### A byte comes in -/

/-- The bits of a byte in the order of R66, as a peer presents them. -/
def msbFirst (b : Byte) : List Bool := (List.range 8).map fun i => b.getLsbD (7 - i)

theorem msbFirst_drop (b : Byte) {i : Nat} (inByte : i < 8) :
    (msbFirst b).drop i = b.getLsbD (7 - i) :: (msbFirst b).drop (i + 1) := by
  rw [List.drop_eq_getElem_cons (by simpa [msbFirst] using inByte)]
  simp [msbFirst]

/-- The first `i` bits of `b`, and zeros below them: the accumulator after `i` samples. -/
def topBits (b : Byte) (i : Nat) : Byte := (b >>> (8 - i)) <<< (8 - i)

theorem getLsbD_topBits (b : Byte) (i : Nat) {j : Nat} (inByte : j < 8) :
    (topBits b i).getLsbD j = (decide (8 - i ≤ j) && b.getLsbD j) := by
  rw [topBits, BitVec.getLsbD_shiftLeft, BitVec.getLsbD_ushiftRight, decide_eq_true inByte, Bool.true_and]
  by_cases low : j < 8 - i
  · simp [low, low.not_ge]
  · rw [Nat.add_sub_cancel' (not_lt.mp low)]
    simp [low, not_lt.mp low]

theorem withDataBit_topBits (b : Byte) {i : Nat} (inByte : i < 8) :
    withDataBit (topBits b i) (BitVec.ofNat 3 i) (b.getLsbD (7 - i)) = topBits b (i + 1) := by
  refine BitVec.eq_of_getLsbD_eq fun j inRange => ?_
  have index : (BitVec.ofNat 3 i).toNat = i := by rw [BitVec.toNat_ofNat]; omega
  rw [getLsbD_withDataBit _ _ _ inRange, getLsbD_topBits _ _ inRange, getLsbD_topBits _ _ inRange, index]
  by_cases position : j = 7 - i
  · simp [position]
  · have same : 8 - i ≤ j ↔ 8 - (i + 1) ≤ j := by omega
    simp [position, same]

/-- The state at the SCL high of bit `i` of the byte `b` that the peer presents, with `ds` behind it: SDA released, the
first `i` bits in the accumulator and the others to be drawn. -/
def byteInAt (s : State) (b : Byte) (ds : List Bool) (i : Nat) : State :=
  clocked true 3#2 { s with
    sdaDir := false, shiftByte := topBits b i, bitIndex := BitVec.ofNat 3 i, peerDraws := (msbFirst b).drop i ++ ds }

theorem runTicks_byteIn_first {s : State} {b : Byte} {ds : List Bool} (gate : OpenGate .receiveData s)
    (phase : s.subPhase = 1#2) (first : s.bitIndex = 0#3) (draws : s.peerDraws = msbFirst b ++ ds) :
    runTicks 2 s = .next (byteInAt s b ds 0) := by
  have released : byteInAt s b ds 0 = clocked true 3#2 { releaseSDA s with shiftByte := 0x00#8 } := by
    simp [byteInAt, clocked, releaseSDA, topBits, ← first, ← draws]
  rw [released]
  exact gate.runTicks_toHigh (q := .receiveData) phase (exec_rdataP1_first _ first)
    ⟨⟨gate.state, gate.expired⟩, by decide⟩ phase

theorem drawPeer_byteInAt (s : State) (b : Byte) (ds : List Bool) {i : Nat} (inByte : i < 8) :
    drawPeer (byteInAt s b ds i)
      = (b.getLsbD (7 - i), { byteInAt s b ds i with peerDraws := (msbFirst b).drop (i + 1) ++ ds }) :=
  drawPeer_listed _ _ _ (by simp only [byteInAt, clocked, msbFirst_drop b inByte, List.cons_append])

/-- A sample before the eighth puts the next bit into the accumulator. -/
theorem exec_rdataP3_byteInAt (s : State) (b : Byte) (ds : List Bool) {i : Nat} (more : i < 7) :
    exec .rdataP3 (byteInAt s b ds i) = .next (advance (byteInAt s b ds (i + 1))) := by
  have inByte : i < 8 := Nat.lt_succ_of_lt more
  have notLast : BitVec.ofNat 3 i ≠ 7#3 := by bv_omega
  rw [exec_rdataP3_released rfl (drawPeer_byteInAt s b ds inByte), receiveBit_of_ne_seven notLast]
  simp [byteInAt, clocked, withDataBit_topBits b inByte, BitVec.ofNat_add]

theorem runTicks_byteIn_period {s : State} (b : Byte) (ds : List Bool) (gate : OpenGate .receiveData s)
    (clear : s.waitFlag = false) {i : Nat} (more : i < 7) :
    runTicks 4 (byteInAt s b ds i) = .next (byteInAt s b ds (i + 1)) := by
  have notFirst : BitVec.ofNat 3 (i + 1) ≠ 0#3 := by bv_omega
  have here (j : Nat) : ActiveGate .receiveData (byteInAt s b ds j) := ⟨⟨gate.state, gate.expired⟩, by decide⟩
  exact Eq.trans ((here i).runTicks_period (r := .receiveData) rfl clear (exec_rdataP3_byteInAt s b ds more)
    (here (i + 1)) rfl (exec_rdataP1_more _ notFirst) ⟨⟨gate.state, gate.expired⟩, by decide⟩ rfl) rfl

/-- The state at the last bit of the byte, with its last draw taken. -/
def byteInLast (s : State) (b : Byte) (ds : List Bool) : State := { byteInAt s b ds 7 with peerDraws := ds }

/-- The eighth sample completes the byte. -/
theorem exec_rdataP3_byteInAt_last {s : State} (b : Byte) (ds : List Bool) (wanted : s.pendingReceive ≠ 0#16) :
    exec .rdataP3 (byteInAt s b ds 7) = .next (advance (completeByte b (byteInLast s b ds))) := by
  have row : exec .rdataP3 (byteInAt s b ds 7)
      = .next (advance (completeByte (withDataBit (topBits b 7) 7#3 (b.getLsbD (7 - 7))) (byteInLast s b ds))) :=
    (exec_rdataP3_released rfl (drawPeer_byteInAt s b ds (by decide))).trans (receiveBit_of_eq_seven rfl wanted)
  have whole : withDataBit (topBits b 7) 7#3 (b.getLsbD (7 - 7)) = b :=
    (withDataBit_topBits b (by decide)).trans (by simp [topBits])
  rw [row, whole]

/-- The eight bit periods of a received byte, up to its end (R146, R162). -/
theorem runTicks_byteIn {s : State} {b : Byte} {ds : List Bool} (gate : OpenGate .receiveData s)
    (phase : s.subPhase = 1#2) (first : s.bitIndex = 0#3) (clear : s.waitFlag = false)
    (wanted : s.pendingReceive ≠ 0#16) (draws : s.peerDraws = msbFirst b ++ ds) :
    runTicks 31 s = .next (advance (completeByte b (byteInLast s b ds))) := by
  have run := runTicks_bits (runTicks_byteIn_first gate phase first draws)
    (fun _ more => runTicks_byteIn_period b ds gate clear more) 7 le_rfl
  have here : OpenGate .receiveData (byteInAt s b ds 7) := ⟨gate.state, gate.expired⟩
  have tick := (here.tick_phase3 rfl clear).trans (exec_rdataP3_byteInAt_last b ds wanted)
  exact (repeatStep_add 1 run).trans (repeatStep_succ 0 tick)

/-- Settles O57: by the run of the eight bit periods, and by what the end of a byte does to the queue and the count. -/
theorem byteComesInMsbFirst : Obligations.ByteComesInMsbFirst := by
  intro s b ds state phase first expired clear wanted draws
  have counting : s.pendingReceive ≠ 0#16 := by bv_omega
  refine ⟨_, runTicks_byteIn ⟨state, expired⟩ phase first clear counting draws, ?_⟩
  rw [completeByte_eq (s := byteInLast s b ds) b counting]
  refine ⟨rfl, rfl, ?_⟩
  rw [← toNat_sub_one counting, sub_one_eq_ofNat counting]
  rfl

end Sys2Proof.Machine
end

section
/-! PROOFS. The model faults: no step from a state that meets the invariant has one, and each row raises only its own:
O52 and O54. -/

namespace Sys2Proof.Machine

/-- Settles O52: whatever arrives completes, and a step takes what arrives. -/
theorem invariantStatesNeverFault : Obligations.InvariantStatesNeverFault := fun _ e inv =>
  ⟨arrive_completes e inv, safeStep_of_inv inv⟩

/-! ### The table of R182 -/

/-- A row of R182's table: the fault, the instruction that raises it and the condition its rule gives. -/
inductive RaisesFault (s : State) : Instr → Fault → Prop where
  | ackSlotUndefined (undefined : s.pendingState = none) : RaisesFault s .wackP3 .pendingStateUndefined
  | masterAckUndefined (wf : Bool) (undefined : s.pendingState = none) :
      RaisesFault s (.sackP1 wf) .pendingStateUndefined
  | nothingToSend (wf : Bool) (first : s.bitIndex = 0#3) (fresh : s.resend = false) (empty : s.outQ = []) :
      RaisesFault s (.sdataP1 wf) .outboundUnderflow
  | nothingToCount (last : s.bitIndex = 7#3) (none_left : s.pendingReceive = 0#16) :
      RaisesFault s .rdataP3 .receiveUnderflow
  | ackDriven (driven : s.sdaDir = true) : RaisesFault s .wackP3 .readWhileDriving
  | bitDriven (driven : s.sdaDir = true) : RaisesFault s .rdataP3 .readWhileDriving
  | reserved1011 (wf : Bool) (c : BitVec 1) (ph : Phase) : RaisesFault s (.tickReserved1011 wf c ph) .reservedState
  | reserved1215 (wf : Bool) (c : BitVec 2) (ph : Phase) : RaisesFault s (.tickReserved1215 wf c ph) .reservedState

/-- An instruction completes, or stops with a fault of R182's table. -/
def CompletesOrListed (i : Instr) (s : State) : Prop :=
  (∃ t, exec i s = .next t) ∨ ∃ f, exec i s = .fault f ∧ RaisesFault s i f

/-! ### The rows that complete in every state -/

/-- A row whose one test decides between two next states completes. -/
theorem ite_next_completes (c : Prop) [Decidable c] (a b : State) :
    ∃ t, (if c then .next a else .next b : Host.Outcome State Fault Refusal) = .next t :=
  ⟨_, (apply_ite Host.Outcome.next c a b).symm⟩

theorem exec_command_completes {i : Instr} (s : State) (command : isCommand i = true) : ∃ t, exec i s = .next t := by
  obtain ⟨u, ok, data, answer, -, -⟩ := exec_command_effect i s command
  exact ⟨_, answer⟩

/-! ### The rows that have a fault -/

/-- At bit 0 a byte is sent again or taken from the queue, and with neither to be had the queue underflows (R145). -/
theorem sdataP1_completesOrListed (wf : Bool) (s : State) : CompletesOrListed (.sdataP1 wf) s := by
  by_cases first : s.bitIndex = 0#3
  · cases again : s.resend with
    | true => exact .inl ⟨_, exec_sdataP1_resend wf first again⟩
    | false =>
      cases queue : s.outQ with
      | nil => exact .inr ⟨_, exec_sdataP1_underflow wf first again queue, .nothingToSend wf first again queue⟩
      | cons b q => exact .inl ⟨_, exec_sdataP1_pop wf first again queue⟩
  · exact .inl ⟨_, exec_sdataP1_held wf first⟩

/-- The master ACK reads the pending state (R147). -/
theorem sackP1_completesOrListed (wf : Bool) (s : State) : CompletesOrListed (.sackP1 wf) s := by
  cases pending : s.pendingState with
  | none => exact .inr ⟨_, exec_sackP1_undefined wf pending, .masterAckUndefined wf pending⟩
  | some p => exact .inl ⟨_, exec_sackP1 wf pending⟩

/-- The acknowledge slot reads the pending state and samples SDA, in this order (R161, R130). -/
theorem wackP3_completesOrListed (s : State) : CompletesOrListed .wackP3 s := by
  cases pending : s.pendingState with
  | none => exact .inr ⟨_, exec_wackP3_undefined pending, .ackSlotUndefined pending⟩
  | some p =>
    cases driven : s.sdaDir with
    | true => exact .inr ⟨_, exec_wackP3_driven pending driven, .ackDriven driven⟩
    | false => exact .inl ⟨_, exec_wackP3_released pending driven rfl⟩

/-- A received bit is sampled, and the eighth is counted (R162, R130). -/
theorem rdataP3_completesOrListed (s : State) : CompletesOrListed .rdataP3 s := by
  cases driven : s.sdaDir with
  | true => exact .inr ⟨_, exec_rdataP3_driven driven, .bitDriven driven⟩
  | false =>
    obtain ⟨ds, n, frame⟩ := drawPeer_frame s
    have drawn : drawPeer s = ((drawPeer s).1, { s with peerDraws := ds, freeCount := n }) := Prod.ext rfl frame
    have row := exec_rdataP3_released driven drawn
    by_cases last : s.bitIndex = 7#3
    · by_cases none_left : s.pendingReceive = 0#16
      · exact .inr ⟨_, row.trans (receiveBit_underflow last none_left), .nothingToCount last none_left⟩
      · exact .inl ⟨_, row.trans (receiveBit_of_eq_seven last none_left)⟩
    · exact .inl ⟨_, row.trans (receiveBit_of_ne_seven last)⟩

/-! ### Every instruction -/

/-- The four rows above and the two reserved ones are all that can fault: a command answers, and every other row has a
next state on both sides of its test, or no test at all. -/
theorem exec_completesOrListed (i : Instr) (s : State) : CompletesOrListed i s := by
  cases i with
  | nop | setaddr | write | read | poprx | rdreg | setcfg | clrsts | reserved | illegal =>
    exact .inl (exec_command_completes s rfl)
  | tickReserved1011 wf c ph => exact .inr ⟨_, rfl, .reserved1011 wf c ph⟩
  | tickReserved1215 wf c ph => exact .inr ⟨_, rfl, .reserved1215 wf c ph⟩
  | sdataP1 wf => exact sdataP1_completesOrListed wf s
  | sackP1 wf => exact sackP1_completesOrListed wf s
  | wackP3 => exact wackP3_completesOrListed s
  | rdataP3 => exact rdataP3_completesOrListed s
  | tickConsume | idleP1 | srwP1 | rdataP1 | startP3 => exact .inl (ite_next_completes _ _ _)
  | _ => exact .inl ⟨_, rfl⟩

theorem exec_ne_refused (i : Instr) (s : State) (r : Refusal) : exec i s ≠ .refused r := by
  obtain ⟨t, completes⟩ | ⟨f, stops, -⟩ := exec_completesOrListed i s
  · simp [completes]
  · simp [stops]

theorem raisesFault_of_exec {i : Instr} {s : State} {f : Fault} (stops : exec i s = .fault f) : RaisesFault s i f := by
  obtain ⟨t, completes⟩ | ⟨g, raised, listed⟩ := exec_completesOrListed i s
  · simp [completes] at stops
  · obtain rfl : g = f := by simpa [raised] using stops
    exact listed

/-- Settles O54: a fault that is raised is a row of the table, and each row is one of the statement's five cases. -/
theorem faultsOnlyAsListed : Obligations.FaultsOnlyAsListed := by
  refine fun i s => ⟨exec_ne_refused i s, fun f stops => ?_⟩
  cases raisesFault_of_exec stops with
  | ackSlotUndefined undefined => exact .inl ⟨rfl, undefined, .inl rfl⟩
  | masterAckUndefined wf undefined => exact .inl ⟨rfl, undefined, .inr ⟨wf, rfl⟩⟩
  | nothingToSend wf first fresh empty => exact .inr (.inl ⟨rfl, empty, fresh, first, wf, rfl⟩)
  | nothingToCount last none_left => exact .inr (.inr (.inl ⟨rfl, none_left, last, rfl⟩))
  | ackDriven driven => exact .inr (.inr (.inr (.inl ⟨rfl, driven, .inl rfl⟩)))
  | bitDriven driven => exact .inr (.inr (.inr (.inl ⟨rfl, driven, .inr rfl⟩)))
  | reserved1011 wf c ph => exact .inr (.inr (.inr (.inr ⟨rfl, .inl ⟨wf, c, ph, rfl⟩⟩)))
  | reserved1215 wf c ph => exact .inr (.inr (.inr (.inr ⟨rfl, .inr ⟨wf, c, ph, rfl⟩⟩)))

end Sys2Proof.Machine
end

section
/-! SUPPORT. The parts of a whole transaction with a peer that acknowledges, each as a run of ticks between two named
states: the start up to the first byte, an acknowledge slot, the master's acknowledge and the stop (R213). -/

namespace Sys2Proof.Machine

/-! ### Runs -/

theorem runTicks_trans {m n : Nat} {s t u : State} (front : runTicks m s = .next t) (back : runTicks n t = .next u) :
    runTicks (m + n) s = .next u := (repeatStep_add n front).trans back

theorem runTicks_one {s t : State} (answer : arrive .tick s = .next t) : runTicks 1 s = .next t :=
  repeatStep_succ 0 answer

/-- An armed extra wait runs out and changes nothing else (R120). -/
theorem runTicks_wait (s : State) : runTicks s.extraWait.toNat s = .next { s with extraWait := 0#16 } := by
  have run := armedWaitConsumesExactly s _ le_rfl
  rwa [Nat.sub_self] at run

/-- `s` with its pause consumed (R124). -/
def unpaused (s : State) : State := { s with waitFlag := false }

/-- From an SCL high with the pause armed to the next SCL low: the pause is consumed (R124). -/
theorem ActiveGate.runTicks_pause {p : ProtoState} {s : State} (gate : ActiveGate p s) (phase : s.subPhase = 3#2)
    (armed : s.waitFlag = true) : runTicks 2 s = .next (clocked false 1#2 (unpaused s)) := by
  have row : openGateRow s.waitFlag s.protocolState s.subPhase p = .tickP3Pause s.protocolState := by
    rw [phase, armed]; rfl
  have consumed : arrive .tick s = .next (advance (unpaused s)) :=
    (tick_openGate gate.expired gate.state).trans (congrArg (exec · s) row)
  have cleared : ActiveGate p (unpaused s) := ⟨⟨gate.state, gate.expired⟩, gate.active⟩
  exact runTicks_trans (runTicks_one consumed) (runTicks_one (cleared.tick_toLow phase))

/-! ### The START -/

/-- `s` with the transaction initiated, for the target address (R140). -/
def initiated (s : State) : State := enter .start { s with txAddress := s.targetAddress }

/-- The transaction that begins in `s` behind its START edge, with the extra wait at `w` (R160). -/
def startDriven (s : State) (w : Count) : State :=
  enter .sendAddress { driveSDA false (initiated s) with extraWait := w }

/-- The state at the SCL low of the first address bit, of the transaction that begins in `s`. -/
def addressed (s : State) : State := clocked false 1#2 (startDriven s 0#16)

theorem IdleReady.runTicks_start {s : State} (ready : IdleReady s) (phase : s.subPhase = 1#2) :
    runTicks (4 + s.params.startWait.toNat) s = .next (addressed s) := by
  have started := ready.gate.runTicks_toHigh (q := .start) phase (exec_idleP1_initiate _ ready.work)
    ⟨⟨rfl, ready.gate.expired⟩, by decide⟩ phase
  have gate : OpenGate .start (clocked true 3#2 (initiated s)) := ⟨rfl, ready.gate.expired⟩
  have edge := runTicks_one ((gate.tick_phase3 rfl ready.clear).trans (exec_startP3_edge ready.work))
  have waited := runTicks_trans (runTicks_trans started edge) (runTicks_wait _)
  have low : ActiveGate .sendAddress (clocked true 3#2 (startDriven s 0#16)) := ⟨⟨rfl, rfl⟩, by decide⟩
  rw [Nat.add_right_comm 3 1]
  exact runTicks_trans waited (runTicks_one (low.tick_toLow rfl))

/-! ### The acknowledge slot -/

/-- The next sample from `s` reads an ACK and leaves `ds` listed: the level is listed, or it is the standing one. -/
inductive PeerAcks (s : State) (ds : List Bool) : Prop where
  | listed (draws : s.peerDraws = false :: ds)
  | standing (draws : s.peerDraws = []) (rest : s.peerRest = some false) (unused : ds = [])

theorem PeerAcks.drawPeer_eq {s : State} {ds : List Bool} (acks : PeerAcks s ds) :
    drawPeer s = (false, { s with peerDraws := ds }) := by
  cases acks with
  | listed draws => exact drawPeer_listed s false ds draws
  | standing draws rest unused => rw [drawPeer_standing draws rest, unused, ← draws]

/-- Whether the peer acknowledges depends on its own record only. -/
theorem PeerAcks.congr {s t : State} {ds : List Bool} (acks : PeerAcks s ds) (draws : t.peerDraws = s.peerDraws)
    (rest : t.peerRest = s.peerRest) : PeerAcks t ds := by
  cases acks with
  | listed here => exact .listed (draws.trans here)
  | standing here standing unused => exact .standing (draws.trans here) (rest.trans standing) unused

/-- The state at the SCL low behind the acknowledge slot that was opened on `s`, to resume at `p`. -/
def acknowledged (kind : Bool) (p : ProtoState) (ds : List Bool) (s : State) : State :=
  clocked false 1#2 (releaseSDA { s with
    ackKind := kind
    waitFlag := false
    peerDraws := ds
    protocolState := p.code
    pendingState := none
    retryCount := if s.params.retryLimit = 0 then s.retryCount else 0#16 })

/-- The acknowledge slot that is opened on `s`, with its pause consumed (R143, R145). -/
def ackSlot (kind : Bool) (p : ProtoState) (s : State) : State := unpaused (openAckSlot kind p s)

theorem runTicks_ackSlot (kind : Bool) {p : ProtoState} {s : State} {ds : List Bool} (active : p ≠ .idle)
    (expired : s.extraWait = 0#16) (acks : PeerAcks s ds) :
    runTicks 6 (clocked true 3#2 (openAckSlot kind p s)) = .next (acknowledged kind p ds s) := by
  have closed : ActiveGate .waitForAcknowledge (clocked true 3#2 (openAckSlot kind p s)) := ⟨⟨rfl, expired⟩, by decide⟩
  have low : ActiveGate .waitForAcknowledge (clocked false 1#2 (ackSlot kind p s)) := ⟨⟨rfl, expired⟩, by decide⟩
  have high : ActiveGate .waitForAcknowledge (clocked true 3#2 (releaseSDA (ackSlot kind p s))) :=
    ⟨⟨rfl, expired⟩, by decide⟩
  have drawn : PeerAcks (clocked true 3#2 (releaseSDA (ackSlot kind p s))) ds := acks.congr rfl rfl
  have taken := exec_wackP3_released (p := p) rfl rfl drawn.drawPeer_eq
  rw [resolveAck_taken (.inl rfl)] at taken
  have paused := closed.runTicks_pause rfl rfl
  have released := low.runTicks_toHigh (q := .waitForAcknowledge) rfl rfl ⟨⟨rfl, expired⟩, by decide⟩ rfl
  have resumed := high.runTicks_toLow rfl rfl taken ⟨⟨rfl, expired⟩, active⟩ rfl
  exact runTicks_trans (runTicks_trans paused released) resumed

/-- The state at the SCL low of the first data bit, of the transaction that begins in `s`. -/
def begun (s : State) (ds : List Bool) : State :=
  acknowledged false (if s.outQ = [] then .receiveData else .sendData) ds
    (driveSDA (decide (s.outQ = [])) { addressed s with bitIndex := 0#3 })

/-- The start, the seven address bits, the direction and the slot behind them (R213). -/
theorem IdleReady.runTicks_begin {s : State} {ds : List Bool} (ready : IdleReady s) (phase : s.subPhase = 1#2)
    (first : s.bitIndex = 0#3) (acks : PeerAcks s ds) :
    runTicks (40 + s.params.startWait.toNat) s = .next (begun s ds) := by
  have gate : OpenGate .sendAddress (addressed s) := ⟨rfl, rfl⟩
  have bits := runTicks_bits (runTicks_addressOut_first gate rfl first)
    (fun _ more => runTicks_addressOut_period gate ready.clear more) 6 le_rfl
  have direction := runTicks_trans bits (runTicks_direction gate ready.clear)
  have resumes : (if s.outQ = [] then ProtoState.receiveData else .sendData) ≠ .idle := by split <;> decide
  have slot := runTicks_ackSlot false (s := driveSDA (decide (s.outQ = [])) { addressed s with bitIndex := 0#3 })
    resumes rfl (acks.congr rfl rfl)
  rw [Nat.add_right_comm 4 36]
  exact runTicks_trans (ready.runTicks_start phase) (runTicks_trans direction slot)

/-! ### The master's acknowledge -/

/-- From the end of a received byte, which leads to `s`, over the bit that the block drives itself (R147, R148). -/
theorem ActiveGate.runTicks_masterAck {p q : ProtoState} {s : State} {d : Bool} (gate : ActiveGate p s)
    (phase : s.subPhase = 3#2) (active : q ≠ .idle)
    (act : exec (phase1Row s.waitFlag p) (clocked false 1#2 s)
      = .next (advance (masterAck d q (clocked false 1#2 s)))) :
    runTicks 5 (advance s) = .next (clocked false 1#2 (unpaused (masterAck d q s))) := by
  have low := runTicks_one (gate.tick_toLow phase)
  have next (t : State) (state : t.protocolState = q.code) (same : t.extraWait = s.extraWait) : ActiveGate q t :=
    ⟨⟨state, same.trans gate.expired⟩, active⟩
  have lowGate : OpenGate p (clocked false 1#2 s) := ⟨gate.state, gate.expired⟩
  have bit := lowGate.runTicks_toHigh rfl act (next _ rfl rfl) rfl
  have paused := (next (clocked true 3#2 (masterAck d q (clocked false 1#2 s))) rfl rfl).runTicks_pause rfl rfl
  exact runTicks_trans (runTicks_trans low bit) paused

/-! ### The STOP -/

/-- `s` with SDA low for the STOP edge and the extra wait at `w` (R149). -/
def stopDriven (s : State) (w : Count) : State := { driveSDA false s with extraWait := w }

/-- The state behind the STOP edge of a transaction whose last slot ended in `s`. -/
def stopped (s : State) : State := advance (enter .idle (driveSDA true (clocked true 3#2 { s with extraWait := 0#16 })))

theorem runTicks_stop {s : State} (gate : OpenGate .stop s) (phase : s.subPhase = 1#2) (clear : s.waitFlag = false) :
    runTicks (3 + s.params.stopWait.toNat) s = .next (stopped s) := by
  have prepared : runTicks 1 s = .next (advance (stopDriven s s.params.stopWait)) :=
    runTicks_one (gate.tick_phase1 phase)
  have waited := runTicks_trans prepared (runTicks_wait _)
  have low : ActiveGate .stop (stopDriven s 0#16) := ⟨⟨gate.state, rfl⟩, by decide⟩
  have high : OpenGate .stop (clocked true 3#2 (stopDriven s 0#16)) := ⟨gate.state, rfl⟩
  have edge := runTicks_trans (runTicks_one (low.tick_toHigh phase)) (runTicks_one (high.tick_phase3 rfl clear))
  rw [Nat.add_right_comm 1 2]
  exact runTicks_trans waited edge

end Sys2Proof.Machine
end

section
/-! PROOFS. A whole transaction with a peer that acknowledges every byte (O59, O60): what holds at the start of each
byte period, and that one byte period leads to the next. -/

namespace Sys2Proof.Machine

/-! ### The start of a byte period -/

/-- Where the byte periods of a transfer in state `p` go on, with the bytes `todo` to come. -/
def byteState (p : ProtoState) (todo : List Byte) : ProtoState := if todo = [] then .stop else p

/-- `t` is at the first SCL low of a period in state `p`, in the transaction that began in `s`. -/
structure PeriodStart (p : ProtoState) (s t : State) : Prop extends OpenGate p t where
  phase : t.subPhase = 1#2
  clear : t.waitFlag = false
  first : t.bitIndex = 0#3
  params : t.params = s.params
  nack : t.stsNack = s.stsNack
  address : t.txAddress = s.targetAddress

/-- The transaction from its start over `k` byte periods to its end, in ticks (R213). -/
theorem runTicks_transaction {s t u : State} {k : Nat}
    (front : runTicks (40 + s.params.startWait.toNat) s = .next t) (bytes : runTicks (36 * k) t = .next u)
    (ending : PeriodStart .stop s u) :
    runTicks (43 + 36 * k + s.params.startWait.toNat + s.params.stopWait.toNat) s = .next (stopped u) := by
  have whole := runTicks_trans (runTicks_trans front bytes) (runTicks_stop ending.toOpenGate ending.phase ending.clear)
  rw [ending.params] at whole
  rwa [show 43 + 36 * k + s.params.startWait.toNat + s.params.stopWait.toNat
    = 40 + s.params.startWait.toNat + 36 * k + (3 + s.params.stopWait.toNat) by omega]

/-- If each byte period moves `At` on by one byte, the byte periods together move it on to the end of the bytes. -/
theorem runTicks_bytes {At : List Byte → State → Prop}
    (next : ∀ b todo t, At (b :: todo) t → ∃ u, runTicks 36 t = .next u ∧ At todo u) {todo : List Byte} {t : State}
    (here : At todo t) : ∃ u, runTicks (36 * todo.length) t = .next u ∧ At [] u := by
  induction todo generalizing t with
  | nil => exact ⟨t, rfl, here⟩
  | cons b todo ih =>
    obtain ⟨u, first, there⟩ := next b todo t here
    obtain ⟨v, others, ending⟩ := ih there
    refine ⟨v, ?_, ending⟩
    rw [List.length_cons, Nat.mul_succ, Nat.add_comm]
    exact runTicks_trans first others

theorem stopped_subPhase (s : State) : (stopped s).subPhase = 0#2 := by simp [stopped, clocked]

/-! ### A write -/

/-- `t` is at the start of a byte period of the write that began in `s`, with the bytes `todo` still to go out. -/
structure WritingAt (todo : List Byte) (s t : State) : Prop extends PeriodStart (byteState .sendData todo) s t where
  queued : t.outQ = todo
  fresh : t.resend = false
  draws : t.peerDraws = []
  rest : t.peerRest = some false
  reads : t.pendingReceive = s.pendingReceive

/-- One byte goes out and the peer acknowledges it. -/
theorem WritingAt.next_byte {b : Byte} {q : List Byte} {s t : State} (here : WritingAt (b :: q) s t) :
    ∃ u, runTicks 36 t = .next u ∧ WritingAt q s u := by
  have gate : OpenGate .sendData t := here.toOpenGate
  have bits := runTicks_bits (runTicks_byteOut_first gate here.phase here.first (.inl ⟨here.fresh, here.queued⟩))
    (fun _ more => runTicks_byteOut_period b q gate here.clear more) 7 le_rfl
  have last : byteOutAt t b q 7 = clocked true 3#2 (openAckSlot true (byteState .sendData q)
      { driveSDA (b.getLsbD 0) (holding t b q 7) with bitIndex := 0#3 }) := by
    rw [byteOutAt, sendDataBit_of_eq_seven rfl]; rfl
  have resumes : byteState .sendData q ≠ .idle := by unfold byteState; split <;> decide
  have slot := runTicks_ackSlot true (s := { driveSDA (b.getLsbD 0) (holding t b q 7) with bitIndex := 0#3 }) resumes
    here.expired (.standing here.draws here.rest rfl)
  rw [last] at bits
  exact ⟨_, runTicks_trans bits slot, ⟨⟨⟨rfl, here.expired⟩, rfl, rfl, rfl, here.params, here.nack, here.address⟩,
    rfl, rfl, rfl, here.rest, here.reads⟩⟩

/-- Settles O59, by induction on the bytes between the two ends of the transaction. -/
theorem writeTransactionTakesItsTicks : Obligations.WriteTransactionTakesItsTicks := by
  intro s inv state phase queued draws rest
  obtain ⟨-, ⟨expired, clear, fresh, first⟩, -⟩ := inv.stateInv (p := .idle) state
  have ready : IdleReady s := ⟨⟨state, expired⟩, clear, (workPending_iff s).mpr (.inl queued)⟩
  have front := ready.runTicks_begin phase first (.standing draws rest rfl)
  have written : WritingAt s.outQ s (begun s []) :=
    ⟨⟨⟨by simp [begun, acknowledged, clocked, byteState, queued], rfl⟩, rfl, rfl, rfl, rfl, rfl, rfl⟩,
      rfl, fresh, rfl, rest, rfl⟩
  obtain ⟨u, bytes, ending⟩ := runTicks_bytes (At := (WritingAt · s)) (fun _ _ _ => WritingAt.next_byte) written
  exact ⟨stopped u, runTicks_transaction front bytes ending.toPeriodStart, rfl, stopped_subPhase u, ending.queued,
    ending.reads, ending.nack, ending.address, rfl, rfl, rfl⟩

/-! ### A read -/

/-- `t` is at the start of a byte period of the read that began in `s`: of the bytes that make `filled` of `inQ`, the
bytes `todo` are still to come, and the peer presents `ds` behind them. -/
structure ReadingAt (filled todo : List Byte) (ds : List Bool) (s t : State) : Prop extends
    PeriodStart (byteState .receiveData todo) s t where
  received : t.inQ ++ todo = filled
  count : t.pendingReceive.toNat = todo.length
  draws : t.peerDraws = todo.flatMap msbFirst ++ ds
  rxOvf : t.stsRxOvf = s.stsRxOvf

/-- The state `s` of the last sample with the byte `b` received and the bytes `todo` still to come. -/
def byteEnd (b : Byte) (todo : List Byte) (s : State) : State :=
  { s with
    shiftByte := b
    bitIndex := 0#3
    inQ := s.inQ ++ [b]
    pendingReceive := BitVec.ofNat 16 todo.length
    protocolState := if todo = [] then ProtoState.sendNoAcknowledge.code else ProtoState.sendAcknowledge.code
    pendingState := some (byteState .receiveData todo) }

theorem completeByte_eq_byteEnd (b : Byte) {s : State} {todo : List Byte}
    (count : s.pendingReceive.toNat = todo.length + 1) (room : s.inQ.length < s.params.inqCap) :
    completeByte b s = byteEnd b todo s := by
  have wanted : s.pendingReceive ≠ 0#16 := by bv_omega
  rw [completeByte_eq b wanted, count]
  cases todo <;> simp [byteEnd, byteState, room.ne]

/-- The block answers the last byte with its NACK and every other one with its ACK (R147, R148, R162). -/
theorem runTicks_byteAnswer (b : Byte) (todo : List Byte) {s : State} (expired : s.extraWait = 0#16)
    (phase : s.subPhase = 3#2) : ∃ d, runTicks 5 (advance (byteEnd b todo s)) = .next
      (clocked false 1#2 (unpaused (masterAck d (byteState .receiveData todo) (byteEnd b todo s)))) := by
  cases todo with
  | nil =>
    have gate : ActiveGate .sendNoAcknowledge (byteEnd b [] s) := ⟨⟨rfl, expired⟩, by decide⟩
    exact ⟨true, gate.runTicks_masterAck phase (by decide) rfl⟩
  | cons c todo =>
    have gate : ActiveGate .sendAcknowledge (byteEnd b (c :: todo) s) := ⟨⟨rfl, expired⟩, by decide⟩
    exact ⟨false, gate.runTicks_masterAck (q := .receiveData) phase (by decide) (exec_sackP1 _ rfl)⟩

/-- One byte comes in and the block answers it. -/
theorem ReadingAt.next_byte {filled todo : List Byte} {b : Byte} {ds : List Bool} {s t : State}
    (here : ReadingAt filled (b :: todo) ds s t) (room : filled.length ≤ s.params.inqCap) :
    ∃ u, runTicks 36 t = .next u ∧ ReadingAt filled todo ds s u := by
  have count : t.pendingReceive.toNat = todo.length + 1 := here.count
  have wanted : t.pendingReceive ≠ 0#16 := by bv_omega
  have fits : t.inQ.length < t.params.inqCap := by
    have length := congrArg List.length here.received
    rw [List.length_append, List.length_cons] at length
    rw [here.params]
    omega
  have draws : t.peerDraws = msbFirst b ++ (todo.flatMap msbFirst ++ ds) := by
    rw [here.draws, List.flatMap_cons, List.append_assoc]
  have bits := runTicks_byteIn here.toOpenGate here.phase here.first here.clear wanted draws
  rw [completeByte_eq_byteEnd (s := byteInLast t b _) b count fits] at bits
  obtain ⟨d, answer⟩ := runTicks_byteAnswer b todo (s := byteInLast t b (todo.flatMap msbFirst ++ ds)) here.expired rfl
  have received : t.inQ ++ [b] ++ todo = filled := by rw [List.append_assoc]; exact here.received
  have left : (BitVec.ofNat 16 todo.length).toNat = todo.length := by bv_omega
  exact ⟨_, runTicks_trans bits answer, ⟨⟨⟨rfl, here.expired⟩, rfl, rfl, rfl, here.params, here.nack, here.address⟩,
    received, left, rfl, here.rxOvf⟩⟩

/-- Settles O60, by induction on the bytes between the two ends of the transaction. -/
theorem readTransactionReceivesItsBytes : Obligations.ReadTransactionReceivesItsBytes := by
  intro s bs ds inv state phase empty wanted count room draws
  obtain ⟨-, ⟨expired, clear, -, first⟩, -⟩ := inv.stateInv (p := .idle) state
  have work : 0 < s.pendingReceive.toNat := count ▸ List.length_pos_of_ne_nil wanted
  have ready : IdleReady s := ⟨⟨state, expired⟩, clear, (workPending_iff s).mpr (.inr work)⟩
  have front := ready.runTicks_begin phase first (.listed draws)
  have fits : (s.inQ ++ bs).length ≤ s.params.inqCap := by rw [List.length_append]; exact room
  have reading : ReadingAt (s.inQ ++ bs) bs ds s (begun s (bs.flatMap msbFirst ++ ds)) :=
    ⟨⟨⟨by simp [begun, acknowledged, clocked, byteState, wanted, empty], rfl⟩, rfl, rfl, rfl, rfl, rfl, rfl⟩,
      rfl, count, rfl, rfl⟩
  obtain ⟨u, bytes, ending⟩ := runTicks_bytes (At := (ReadingAt (s.inQ ++ bs) · ds s))
    (fun _ _ _ here => here.next_byte fits) reading
  have received : u.inQ = s.inQ ++ bs := (List.append_nil _).symm.trans ending.received
  have none_left : u.pendingReceive = 0#16 := BitVec.eq_of_toNat_eq ending.count
  exact ⟨stopped u, runTicks_transaction front bytes ending.toPeriodStart, rfl, stopped_subPhase u, received,
    ending.draws, none_left, ending.nack, ending.rxOvf, ending.address, rfl, rfl, rfl⟩

end Sys2Proof.Machine
end

section
/-! PROOFS. The statements about reset: O9, O10 and O50. -/

namespace Sys2Proof.Machine

/-- Settles O9: `rst` is taken as it stands in the list, and its whole effect is the reset. -/
theorem resetInputRestoresResetValues : Obligations.ResetInputRestoresResetValues :=
  fun _ _ listed => step_listed listed

/-- Settles O10: each is the reset column's own value; CONFIG is the one that is put together from bits. -/
theorem resetStateValues : Obligations.ResetStateValues := by
  have config : configWord State.reset = 0x0004#16 := by decide
  exact ⟨rfl, rfl, rfl, rfl, rfl, rfl, rfl, rfl, rfl, rfl, rfl, rfl, rfl, rfl, rfl, rfl, rfl, rfl, rfl, config, rfl,
    rfl, rfl, rfl⟩

/-- The machine's own parameters are legal: each capacity is one more than a number below 65535 (R7). -/
theorem configParams_wf : Config.params.wf :=
  ⟨Nat.succ_pos _, Config.outqCapPred.isLt, Nat.succ_pos _, Config.inqCapPred.isLt⟩

/-- Settles O50: the state after reset is a boot with the machine's own parameters. -/
theorem resetMeetsInvariant : Obligations.ResetMeetsInvariant :=
  ⟨boot_inv [] [] none 0 configParams_wf, fun _ es ds rest n wf => boot_inv es ds rest n wf⟩

end Sys2Proof.Machine
end
